-- ==== Sys2Proof/Word.lean ====
section
/-! DEFINITION. The words of the block: bytes, byte sequences and register images (00_scope.md section 4; 10_state.md R40). -/

namespace Sys2Proof

/-- `u8` of 00_scope.md section 4: bit 0 is the least significant bit. -/
abbrev Byte := BitVec 8

/-- `Bytes` of 00_scope.md section 4: a finite list of `u8`, possibly empty. -/
abbrev Bytes := List Byte

/-- R40: a RegisterImage is exactly 12 bytes, addressed by index 0 to 11. -/
abbrev Image := Vector Byte 12

end Sys2Proof
end

