-- ==== Sys2Proof/Syntax.lean ====
section
/-! DEFINITION. The instructions: the eleven operations of the request port with their operands, and the four wire frames
as the device receives them (30_encoding.md R80, R82, R88). -/

namespace Sys2Proof

/-- R37: one FM operator. The integer fields are `Int`: an operand may carry a value outside its range, which the operation
then reports. -/
structure Operator where
  tremolo : Bool
  vibrato : Bool
  sustaining : Bool
  envelopeScaling : Bool
  keyScale : Int
  frequencyMultiplier : Int
  outputLevel : Int
  attack : Int
  decay : Int
  sustain : Int
  release : Int
  waveform : Int
deriving DecidableEq, Repr

/-- R38: an instrument. Equality is structural (R39). -/
structure Instrument where
  drumChannel : Int
  feedback : Int
  frequencyModulation : Bool
  modulator : Operator
  carrier : Operator
deriving DecidableEq, Repr

/-- R41: a parameter triple. -/
structure Triple where
  offset : Byte
  mask : Byte
  value : Byte
deriving DecidableEq, Repr

/-- R108: an operator literal with every field left out. -/
def Operator.zero : Operator where
  tremolo := false
  vibrato := false
  sustaining := false
  envelopeScaling := false
  keyScale := 0
  frequencyMultiplier := 0
  outputLevel := 0
  attack := 0
  decay := 0
  sustain := 0
  release := 0
  waveform := 0

/-- R108: an instrument literal with every field left out (the all-zero instrument). -/
def Instrument.zero : Instrument where
  drumChannel := 0
  feedback := 0
  frequencyModulation := false
  modulator := Operator.zero
  carrier := Operator.zero

/-- R84: OPSEL, which operator a field selector names. -/
inductive OpSel where
  | modulator
  | carrier
deriving DecidableEq, Repr

/-- R85: the fields, in the order of their ids FID 0 to 14. The first three are shared, the rest belong to an operator. -/
inductive InsField where
  | drumChannel
  | feedback
  | frequencyModulation
  | tremolo
  | vibrato
  | sustaining
  | envelopeScaling
  | frequencyMultiplier
  | keyScale
  | outputLevel
  | attack
  | decay
  | sustain
  | release
  | waveform
deriving DecidableEq, Repr

/-- R35: a request as the request port carries it, the operation code beside every operand R82 knows. An operation reads
the operands R82 lists for it and no other (DESIGN CHOICE, log 2, safe: the spec gives the record, not its layout). The
operand `data` is the Bytes operand, called `data`, `img`, `frame` or `file` in R82. -/
structure Request where
  opc : Byte
  data : Bytes := []
  slot : Rat := 0
  fsel : Byte := 0
  value : Int := 0
  ins : Instrument := Instrument.zero
deriving DecidableEq, Repr

/-- What is presented to the machine: a request on the block's request port (R34), or a frame on the wire to the device
(60_exceptions.md R288). -/
inductive Packet where
  | request (r : Request)
  | frame (bytes : Bytes)
deriving DecidableEq, Repr

/-- The instructions, one constructor per row of `opcode_table.json`. A FRAME row is the receipt of that frame by the device
(DEDUCED, log 3); its payload is carried decoded, its two reserved bytes as received (R89). -/
inductive Instr where
  | bpEnc (data : Bytes)
  | bpDec (data : Bytes)
  | rcEnc (ins : Instrument)
  | rcDec (img : Bytes)
  | rcTriple (fsel : Byte) (value : Int)
  | mfBuildDump (slot : Rat) (ins : Instrument)
  | mfBuildParam (slot : Rat) (fsel : Byte) (value : Int)
  | mfBuildReq (slot : Rat)
  | mfBuildResp (slot : Rat) (ins : Instrument)
  | mfParse (frame : Bytes)
  | bfParse (file : Bytes)
  | frameDump (slot : Fin 16) (reserved : Byte × Byte) (image : Image)
  | frameParam (slot : Fin 16) (reserved : Byte × Byte) (triple : Triple)
  | frameReq (slot : Fin 16) (reserved : Byte × Byte)
  | frameResp (slot : Fin 16) (reserved : Byte × Byte) (image : Image)
deriving DecidableEq, Repr

end Sys2Proof
end

