-- ==== Sys2Proof/Machine/Values.lean ====
section
/-! DEFINITION. What a response carries: result values, error kinds and info records (10_state.md R36, R42, R43;
60_exceptions.md R271 to R275). -/

namespace Sys2Proof.Machine

/-- R42: the result of MF.PARSE. `reserved` holds frame bytes 3 and 4 as received. -/
inductive ParsedFrame where
  | dump (slot : Fin 16) (reserved : Byte × Byte) (image : Image)
  | paramUpdate (slot : Fin 16) (reserved : Byte × Byte) (triple : Triple)
  | request (slot : Fin 16) (reserved : Byte × Byte)
  | response (slot : Fin 16) (reserved : Byte × Byte) (image : Image) (instrument : Instrument)
deriving DecidableEq, Repr

/-- R43: one melodic bank, its label and its named instruments in slot order. -/
structure BankEntry where
  label : Bytes
  instruments : List (Bytes × Instrument)
deriving DecidableEq, Repr

/-- R43: a bank, one entry per melodic bank in index order. -/
abbrev Bank := List BankEntry

/-- R36, R80: the result value of an operation, by result type. -/
inductive Value where
  | bytes (b : Bytes)
  | image (m : Image)
  | instrument (ins : Instrument)
  | triple (t : Triple)
  | parsed (p : ParsedFrame)
  | bank (b : Bank)
deriving DecidableEq, Repr

/-- R271: the error kinds. -/
inductive ErrorKind where
  | invalidRange
  | malformedFrame
  | unsupportedFileFormat
  | illegalRequest
deriving DecidableEq, Repr

/-- R273: why a frame is malformed. -/
inductive MalformedReason where
  | tooShort
  | badSOX
  | badVendor
  | badEOX
  | unknownCommand
  | badSlot
  | payloadHighBit
  | payloadLength
deriving DecidableEq, Repr

/-- R274: why a file is not parsed. -/
inductive FileReason where
  | badMagic
  | truncated
deriving DecidableEq, Repr

/-- R275: why a request is illegal. -/
inductive RequestReason where
  | unknownOpcode
  | badFieldSelector
  | badImageLength
  | tooLong
deriving DecidableEq, Repr

/-- R271: an error, its kind with that kind's info record. -/
inductive ErrorInfo where
  | invalidRange (fsel : Byte) (value : Int)
  | malformedFrame (reason : MalformedReason) (index : Nat)
  | unsupportedFileFormat (reason : FileReason) (offset : Nat)
  | illegalRequest (reason : RequestReason)
deriving DecidableEq, Repr

/-- R36: a response. -/
inductive Response where
  | ok (v : Value)
  | err (e : ErrorInfo)
deriving DecidableEq, Repr

end Sys2Proof.Machine
end

