-- ==== Sys2Proof/Machine/Flags.lean ====
section
/-! DEFINITION. The status code of a response, the block's only flag-like output (10_state.md R36), and the numbers of the
reasons (60_exceptions.md R271 to R275). -/

namespace Sys2Proof.Machine

/-- R271: the kind of an error. -/
def ErrorInfo.kind : ErrorInfo → ErrorKind
  | .invalidRange _ _ => .invalidRange
  | .malformedFrame _ _ => .malformedFrame
  | .unsupportedFileFormat _ _ => .unsupportedFileFormat
  | .illegalRequest _ => .illegalRequest

/-- R271: the status code of an error kind. -/
def ErrorKind.status : ErrorKind → Byte
  | .invalidRange => 0x01
  | .malformedFrame => 0x02
  | .unsupportedFileFormat => 0x03
  | .illegalRequest => 0x04

/-- R36, R271: STATUS, 0x00 for Ok and the kind's code for Err. -/
def Response.status : Response → Byte
  | .ok _ => 0x00
  | .err e => e.kind.status

/-- R273: the reason codes of MalformedFrame. -/
def MalformedReason.code : MalformedReason → Nat
  | .tooShort => 1
  | .badSOX => 2
  | .badVendor => 3
  | .badEOX => 4
  | .unknownCommand => 5
  | .badSlot => 6
  | .payloadHighBit => 7
  | .payloadLength => 8

/-- R274: the reason codes of UnsupportedFileFormat. -/
def FileReason.code : FileReason → Nat
  | .badMagic => 1
  | .truncated => 2

/-- R275: the reason codes of IllegalRequest. -/
def RequestReason.code : RequestReason → Nat
  | .unknownOpcode => 1
  | .badFieldSelector => 2
  | .badImageLength => 3
  | .tooLong => 4

/-- R271 to R275: the reason code an error's info record carries, none for InvalidRange, whose record has no reason. -/
def ErrorInfo.reasonCode : ErrorInfo → Option Nat
  | .invalidRange _ _ => none
  | .malformedFrame r _ => some r.code
  | .unsupportedFileFormat r _ => some r.code
  | .illegalRequest r => some r.code

end Sys2Proof.Machine
end

