-- ==== Sys2Proof/Config.lean ====
section
/-! DEFINITION. What is fixed before the first request (10_state.md R44, 70_reset_and_hazards.md R302), and the free
values: constants without a body that stand for what the spec leaves open. -/

namespace Sys2Proof

/-- R44: the configuration parameters of 00_scope.md R11. Each offset `o` of a field of `n` bytes has `o + n ≤ 62`, which
its type says; GM_NAME is a total function from 0..127, held as its table; MAX_LEN is a Nat or none. -/
structure Config where
  flagsOff : Fin 62
  fbconnOff : Fin 62
  carOff : Fin 58
  modOff : Fin 58
  gmName : Vector Bytes 128
  maxLen : Option Nat
deriving DecidableEq, Repr

/-! The General MIDI Level 1 program names, ASCII, sixteen a piece: the informative list of 43_bank_file_parser.md
section 3 (DESIGN CHOICE as the table at reset, log 4, unsafe: a claim about a name at reset rests on it). -/

/-- Program names 0 to 15. -/
def gmNames0 : List Bytes :=
  [[0x41, 0x63, 0x6F, 0x75, 0x73, 0x74, 0x69, 0x63, 0x20, 0x47, 0x72, 0x61, 0x6E, 0x64, 0x20, 0x50, 0x69, 0x61, 0x6E, 0x6F],  -- Acoustic Grand Piano
   [0x42, 0x72, 0x69, 0x67, 0x68, 0x74, 0x20, 0x41, 0x63, 0x6F, 0x75, 0x73, 0x74, 0x69, 0x63, 0x20, 0x50, 0x69, 0x61, 0x6E, 0x6F],  -- Bright Acoustic Piano
   [0x45, 0x6C, 0x65, 0x63, 0x74, 0x72, 0x69, 0x63, 0x20, 0x47, 0x72, 0x61, 0x6E, 0x64, 0x20, 0x50, 0x69, 0x61, 0x6E, 0x6F],  -- Electric Grand Piano
   [0x48, 0x6F, 0x6E, 0x6B, 0x79, 0x2D, 0x74, 0x6F, 0x6E, 0x6B, 0x20, 0x50, 0x69, 0x61, 0x6E, 0x6F],  -- Honky-tonk Piano
   [0x45, 0x6C, 0x65, 0x63, 0x74, 0x72, 0x69, 0x63, 0x20, 0x50, 0x69, 0x61, 0x6E, 0x6F, 0x20, 0x31],  -- Electric Piano 1
   [0x45, 0x6C, 0x65, 0x63, 0x74, 0x72, 0x69, 0x63, 0x20, 0x50, 0x69, 0x61, 0x6E, 0x6F, 0x20, 0x32],  -- Electric Piano 2
   [0x48, 0x61, 0x72, 0x70, 0x73, 0x69, 0x63, 0x68, 0x6F, 0x72, 0x64],  -- Harpsichord
   [0x43, 0x6C, 0x61, 0x76, 0x69],  -- Clavi
   [0x43, 0x65, 0x6C, 0x65, 0x73, 0x74, 0x61],  -- Celesta
   [0x47, 0x6C, 0x6F, 0x63, 0x6B, 0x65, 0x6E, 0x73, 0x70, 0x69, 0x65, 0x6C],  -- Glockenspiel
   [0x4D, 0x75, 0x73, 0x69, 0x63, 0x20, 0x42, 0x6F, 0x78],  -- Music Box
   [0x56, 0x69, 0x62, 0x72, 0x61, 0x70, 0x68, 0x6F, 0x6E, 0x65],  -- Vibraphone
   [0x4D, 0x61, 0x72, 0x69, 0x6D, 0x62, 0x61],  -- Marimba
   [0x58, 0x79, 0x6C, 0x6F, 0x70, 0x68, 0x6F, 0x6E, 0x65],  -- Xylophone
   [0x54, 0x75, 0x62, 0x75, 0x6C, 0x61, 0x72, 0x20, 0x42, 0x65, 0x6C, 0x6C, 0x73],  -- Tubular Bells
   [0x44, 0x75, 0x6C, 0x63, 0x69, 0x6D, 0x65, 0x72]]  -- Dulcimer

/-- Program names 16 to 31. -/
def gmNames1 : List Bytes :=
  [[0x44, 0x72, 0x61, 0x77, 0x62, 0x61, 0x72, 0x20, 0x4F, 0x72, 0x67, 0x61, 0x6E],  -- Drawbar Organ
   [0x50, 0x65, 0x72, 0x63, 0x75, 0x73, 0x73, 0x69, 0x76, 0x65, 0x20, 0x4F, 0x72, 0x67, 0x61, 0x6E],  -- Percussive Organ
   [0x52, 0x6F, 0x63, 0x6B, 0x20, 0x4F, 0x72, 0x67, 0x61, 0x6E],  -- Rock Organ
   [0x43, 0x68, 0x75, 0x72, 0x63, 0x68, 0x20, 0x4F, 0x72, 0x67, 0x61, 0x6E],  -- Church Organ
   [0x52, 0x65, 0x65, 0x64, 0x20, 0x4F, 0x72, 0x67, 0x61, 0x6E],  -- Reed Organ
   [0x41, 0x63, 0x63, 0x6F, 0x72, 0x64, 0x69, 0x6F, 0x6E],  -- Accordion
   [0x48, 0x61, 0x72, 0x6D, 0x6F, 0x6E, 0x69, 0x63, 0x61],  -- Harmonica
   [0x54, 0x61, 0x6E, 0x67, 0x6F, 0x20, 0x41, 0x63, 0x63, 0x6F, 0x72, 0x64, 0x69, 0x6F, 0x6E],  -- Tango Accordion
   [0x41, 0x63, 0x6F, 0x75, 0x73, 0x74, 0x69, 0x63, 0x20, 0x47, 0x75, 0x69, 0x74, 0x61, 0x72, 0x20, 0x28, 0x6E, 0x79, 0x6C, 0x6F, 0x6E, 0x29],  -- Acoustic Guitar (nylon)
   [0x41, 0x63, 0x6F, 0x75, 0x73, 0x74, 0x69, 0x63, 0x20, 0x47, 0x75, 0x69, 0x74, 0x61, 0x72, 0x20, 0x28, 0x73, 0x74, 0x65, 0x65, 0x6C, 0x29],  -- Acoustic Guitar (steel)
   [0x45, 0x6C, 0x65, 0x63, 0x74, 0x72, 0x69, 0x63, 0x20, 0x47, 0x75, 0x69, 0x74, 0x61, 0x72, 0x20, 0x28, 0x6A, 0x61, 0x7A, 0x7A, 0x29],  -- Electric Guitar (jazz)
   [0x45, 0x6C, 0x65, 0x63, 0x74, 0x72, 0x69, 0x63, 0x20, 0x47, 0x75, 0x69, 0x74, 0x61, 0x72, 0x20, 0x28, 0x63, 0x6C, 0x65, 0x61, 0x6E, 0x29],  -- Electric Guitar (clean)
   [0x45, 0x6C, 0x65, 0x63, 0x74, 0x72, 0x69, 0x63, 0x20, 0x47, 0x75, 0x69, 0x74, 0x61, 0x72, 0x20, 0x28, 0x6D, 0x75, 0x74, 0x65, 0x64, 0x29],  -- Electric Guitar (muted)
   [0x4F, 0x76, 0x65, 0x72, 0x64, 0x72, 0x69, 0x76, 0x65, 0x6E, 0x20, 0x47, 0x75, 0x69, 0x74, 0x61, 0x72],  -- Overdriven Guitar
   [0x44, 0x69, 0x73, 0x74, 0x6F, 0x72, 0x74, 0x69, 0x6F, 0x6E, 0x20, 0x47, 0x75, 0x69, 0x74, 0x61, 0x72],  -- Distortion Guitar
   [0x47, 0x75, 0x69, 0x74, 0x61, 0x72, 0x20, 0x68, 0x61, 0x72, 0x6D, 0x6F, 0x6E, 0x69, 0x63, 0x73]]  -- Guitar harmonics

/-- Program names 32 to 47. -/
def gmNames2 : List Bytes :=
  [[0x41, 0x63, 0x6F, 0x75, 0x73, 0x74, 0x69, 0x63, 0x20, 0x42, 0x61, 0x73, 0x73],  -- Acoustic Bass
   [0x45, 0x6C, 0x65, 0x63, 0x74, 0x72, 0x69, 0x63, 0x20, 0x42, 0x61, 0x73, 0x73, 0x20, 0x28, 0x66, 0x69, 0x6E, 0x67, 0x65, 0x72, 0x29],  -- Electric Bass (finger)
   [0x45, 0x6C, 0x65, 0x63, 0x74, 0x72, 0x69, 0x63, 0x20, 0x42, 0x61, 0x73, 0x73, 0x20, 0x28, 0x70, 0x69, 0x63, 0x6B, 0x29],  -- Electric Bass (pick)
   [0x46, 0x72, 0x65, 0x74, 0x6C, 0x65, 0x73, 0x73, 0x20, 0x42, 0x61, 0x73, 0x73],  -- Fretless Bass
   [0x53, 0x6C, 0x61, 0x70, 0x20, 0x42, 0x61, 0x73, 0x73, 0x20, 0x31],  -- Slap Bass 1
   [0x53, 0x6C, 0x61, 0x70, 0x20, 0x42, 0x61, 0x73, 0x73, 0x20, 0x32],  -- Slap Bass 2
   [0x53, 0x79, 0x6E, 0x74, 0x68, 0x20, 0x42, 0x61, 0x73, 0x73, 0x20, 0x31],  -- Synth Bass 1
   [0x53, 0x79, 0x6E, 0x74, 0x68, 0x20, 0x42, 0x61, 0x73, 0x73, 0x20, 0x32],  -- Synth Bass 2
   [0x56, 0x69, 0x6F, 0x6C, 0x69, 0x6E],  -- Violin
   [0x56, 0x69, 0x6F, 0x6C, 0x61],  -- Viola
   [0x43, 0x65, 0x6C, 0x6C, 0x6F],  -- Cello
   [0x43, 0x6F, 0x6E, 0x74, 0x72, 0x61, 0x62, 0x61, 0x73, 0x73],  -- Contrabass
   [0x54, 0x72, 0x65, 0x6D, 0x6F, 0x6C, 0x6F, 0x20, 0x53, 0x74, 0x72, 0x69, 0x6E, 0x67, 0x73],  -- Tremolo Strings
   [0x50, 0x69, 0x7A, 0x7A, 0x69, 0x63, 0x61, 0x74, 0x6F, 0x20, 0x53, 0x74, 0x72, 0x69, 0x6E, 0x67, 0x73],  -- Pizzicato Strings
   [0x4F, 0x72, 0x63, 0x68, 0x65, 0x73, 0x74, 0x72, 0x61, 0x6C, 0x20, 0x48, 0x61, 0x72, 0x70],  -- Orchestral Harp
   [0x54, 0x69, 0x6D, 0x70, 0x61, 0x6E, 0x69]]  -- Timpani

/-- Program names 48 to 63. -/
def gmNames3 : List Bytes :=
  [[0x53, 0x74, 0x72, 0x69, 0x6E, 0x67, 0x20, 0x45, 0x6E, 0x73, 0x65, 0x6D, 0x62, 0x6C, 0x65, 0x20, 0x31],  -- String Ensemble 1
   [0x53, 0x74, 0x72, 0x69, 0x6E, 0x67, 0x20, 0x45, 0x6E, 0x73, 0x65, 0x6D, 0x62, 0x6C, 0x65, 0x20, 0x32],  -- String Ensemble 2
   [0x53, 0x79, 0x6E, 0x74, 0x68, 0x53, 0x74, 0x72, 0x69, 0x6E, 0x67, 0x73, 0x20, 0x31],  -- SynthStrings 1
   [0x53, 0x79, 0x6E, 0x74, 0x68, 0x53, 0x74, 0x72, 0x69, 0x6E, 0x67, 0x73, 0x20, 0x32],  -- SynthStrings 2
   [0x43, 0x68, 0x6F, 0x69, 0x72, 0x20, 0x41, 0x61, 0x68, 0x73],  -- Choir Aahs
   [0x56, 0x6F, 0x69, 0x63, 0x65, 0x20, 0x4F, 0x6F, 0x68, 0x73],  -- Voice Oohs
   [0x53, 0x79, 0x6E, 0x74, 0x68, 0x20, 0x56, 0x6F, 0x69, 0x63, 0x65],  -- Synth Voice
   [0x4F, 0x72, 0x63, 0x68, 0x65, 0x73, 0x74, 0x72, 0x61, 0x20, 0x48, 0x69, 0x74],  -- Orchestra Hit
   [0x54, 0x72, 0x75, 0x6D, 0x70, 0x65, 0x74],  -- Trumpet
   [0x54, 0x72, 0x6F, 0x6D, 0x62, 0x6F, 0x6E, 0x65],  -- Trombone
   [0x54, 0x75, 0x62, 0x61],  -- Tuba
   [0x4D, 0x75, 0x74, 0x65, 0x64, 0x20, 0x54, 0x72, 0x75, 0x6D, 0x70, 0x65, 0x74],  -- Muted Trumpet
   [0x46, 0x72, 0x65, 0x6E, 0x63, 0x68, 0x20, 0x48, 0x6F, 0x72, 0x6E],  -- French Horn
   [0x42, 0x72, 0x61, 0x73, 0x73, 0x20, 0x53, 0x65, 0x63, 0x74, 0x69, 0x6F, 0x6E],  -- Brass Section
   [0x53, 0x79, 0x6E, 0x74, 0x68, 0x42, 0x72, 0x61, 0x73, 0x73, 0x20, 0x31],  -- SynthBrass 1
   [0x53, 0x79, 0x6E, 0x74, 0x68, 0x42, 0x72, 0x61, 0x73, 0x73, 0x20, 0x32]]  -- SynthBrass 2

/-- Program names 64 to 79. -/
def gmNames4 : List Bytes :=
  [[0x53, 0x6F, 0x70, 0x72, 0x61, 0x6E, 0x6F, 0x20, 0x53, 0x61, 0x78],  -- Soprano Sax
   [0x41, 0x6C, 0x74, 0x6F, 0x20, 0x53, 0x61, 0x78],  -- Alto Sax
   [0x54, 0x65, 0x6E, 0x6F, 0x72, 0x20, 0x53, 0x61, 0x78],  -- Tenor Sax
   [0x42, 0x61, 0x72, 0x69, 0x74, 0x6F, 0x6E, 0x65, 0x20, 0x53, 0x61, 0x78],  -- Baritone Sax
   [0x4F, 0x62, 0x6F, 0x65],  -- Oboe
   [0x45, 0x6E, 0x67, 0x6C, 0x69, 0x73, 0x68, 0x20, 0x48, 0x6F, 0x72, 0x6E],  -- English Horn
   [0x42, 0x61, 0x73, 0x73, 0x6F, 0x6F, 0x6E],  -- Bassoon
   [0x43, 0x6C, 0x61, 0x72, 0x69, 0x6E, 0x65, 0x74],  -- Clarinet
   [0x50, 0x69, 0x63, 0x63, 0x6F, 0x6C, 0x6F],  -- Piccolo
   [0x46, 0x6C, 0x75, 0x74, 0x65],  -- Flute
   [0x52, 0x65, 0x63, 0x6F, 0x72, 0x64, 0x65, 0x72],  -- Recorder
   [0x50, 0x61, 0x6E, 0x20, 0x46, 0x6C, 0x75, 0x74, 0x65],  -- Pan Flute
   [0x42, 0x6C, 0x6F, 0x77, 0x6E, 0x20, 0x42, 0x6F, 0x74, 0x74, 0x6C, 0x65],  -- Blown Bottle
   [0x53, 0x68, 0x61, 0x6B, 0x75, 0x68, 0x61, 0x63, 0x68, 0x69],  -- Shakuhachi
   [0x57, 0x68, 0x69, 0x73, 0x74, 0x6C, 0x65],  -- Whistle
   [0x4F, 0x63, 0x61, 0x72, 0x69, 0x6E, 0x61]]  -- Ocarina

/-- Program names 80 to 95. -/
def gmNames5 : List Bytes :=
  [[0x4C, 0x65, 0x61, 0x64, 0x20, 0x31, 0x20, 0x28, 0x73, 0x71, 0x75, 0x61, 0x72, 0x65, 0x29],  -- Lead 1 (square)
   [0x4C, 0x65, 0x61, 0x64, 0x20, 0x32, 0x20, 0x28, 0x73, 0x61, 0x77, 0x74, 0x6F, 0x6F, 0x74, 0x68, 0x29],  -- Lead 2 (sawtooth)
   [0x4C, 0x65, 0x61, 0x64, 0x20, 0x33, 0x20, 0x28, 0x63, 0x61, 0x6C, 0x6C, 0x69, 0x6F, 0x70, 0x65, 0x29],  -- Lead 3 (calliope)
   [0x4C, 0x65, 0x61, 0x64, 0x20, 0x34, 0x20, 0x28, 0x63, 0x68, 0x69, 0x66, 0x66, 0x29],  -- Lead 4 (chiff)
   [0x4C, 0x65, 0x61, 0x64, 0x20, 0x35, 0x20, 0x28, 0x63, 0x68, 0x61, 0x72, 0x61, 0x6E, 0x67, 0x29],  -- Lead 5 (charang)
   [0x4C, 0x65, 0x61, 0x64, 0x20, 0x36, 0x20, 0x28, 0x76, 0x6F, 0x69, 0x63, 0x65, 0x29],  -- Lead 6 (voice)
   [0x4C, 0x65, 0x61, 0x64, 0x20, 0x37, 0x20, 0x28, 0x66, 0x69, 0x66, 0x74, 0x68, 0x73, 0x29],  -- Lead 7 (fifths)
   [0x4C, 0x65, 0x61, 0x64, 0x20, 0x38, 0x20, 0x28, 0x62, 0x61, 0x73, 0x73, 0x20, 0x2B, 0x20, 0x6C, 0x65, 0x61, 0x64, 0x29],  -- Lead 8 (bass + lead)
   [0x50, 0x61, 0x64, 0x20, 0x31, 0x20, 0x28, 0x6E, 0x65, 0x77, 0x20, 0x61, 0x67, 0x65, 0x29],  -- Pad 1 (new age)
   [0x50, 0x61, 0x64, 0x20, 0x32, 0x20, 0x28, 0x77, 0x61, 0x72, 0x6D, 0x29],  -- Pad 2 (warm)
   [0x50, 0x61, 0x64, 0x20, 0x33, 0x20, 0x28, 0x70, 0x6F, 0x6C, 0x79, 0x73, 0x79, 0x6E, 0x74, 0x68, 0x29],  -- Pad 3 (polysynth)
   [0x50, 0x61, 0x64, 0x20, 0x34, 0x20, 0x28, 0x63, 0x68, 0x6F, 0x69, 0x72, 0x29],  -- Pad 4 (choir)
   [0x50, 0x61, 0x64, 0x20, 0x35, 0x20, 0x28, 0x62, 0x6F, 0x77, 0x65, 0x64, 0x29],  -- Pad 5 (bowed)
   [0x50, 0x61, 0x64, 0x20, 0x36, 0x20, 0x28, 0x6D, 0x65, 0x74, 0x61, 0x6C, 0x6C, 0x69, 0x63, 0x29],  -- Pad 6 (metallic)
   [0x50, 0x61, 0x64, 0x20, 0x37, 0x20, 0x28, 0x68, 0x61, 0x6C, 0x6F, 0x29],  -- Pad 7 (halo)
   [0x50, 0x61, 0x64, 0x20, 0x38, 0x20, 0x28, 0x73, 0x77, 0x65, 0x65, 0x70, 0x29]]  -- Pad 8 (sweep)

/-- Program names 96 to 111. -/
def gmNames6 : List Bytes :=
  [[0x46, 0x58, 0x20, 0x31, 0x20, 0x28, 0x72, 0x61, 0x69, 0x6E, 0x29],  -- FX 1 (rain)
   [0x46, 0x58, 0x20, 0x32, 0x20, 0x28, 0x73, 0x6F, 0x75, 0x6E, 0x64, 0x74, 0x72, 0x61, 0x63, 0x6B, 0x29],  -- FX 2 (soundtrack)
   [0x46, 0x58, 0x20, 0x33, 0x20, 0x28, 0x63, 0x72, 0x79, 0x73, 0x74, 0x61, 0x6C, 0x29],  -- FX 3 (crystal)
   [0x46, 0x58, 0x20, 0x34, 0x20, 0x28, 0x61, 0x74, 0x6D, 0x6F, 0x73, 0x70, 0x68, 0x65, 0x72, 0x65, 0x29],  -- FX 4 (atmosphere)
   [0x46, 0x58, 0x20, 0x35, 0x20, 0x28, 0x62, 0x72, 0x69, 0x67, 0x68, 0x74, 0x6E, 0x65, 0x73, 0x73, 0x29],  -- FX 5 (brightness)
   [0x46, 0x58, 0x20, 0x36, 0x20, 0x28, 0x67, 0x6F, 0x62, 0x6C, 0x69, 0x6E, 0x73, 0x29],  -- FX 6 (goblins)
   [0x46, 0x58, 0x20, 0x37, 0x20, 0x28, 0x65, 0x63, 0x68, 0x6F, 0x65, 0x73, 0x29],  -- FX 7 (echoes)
   [0x46, 0x58, 0x20, 0x38, 0x20, 0x28, 0x73, 0x63, 0x69, 0x2D, 0x66, 0x69, 0x29],  -- FX 8 (sci-fi)
   [0x53, 0x69, 0x74, 0x61, 0x72],  -- Sitar
   [0x42, 0x61, 0x6E, 0x6A, 0x6F],  -- Banjo
   [0x53, 0x68, 0x61, 0x6D, 0x69, 0x73, 0x65, 0x6E],  -- Shamisen
   [0x4B, 0x6F, 0x74, 0x6F],  -- Koto
   [0x4B, 0x61, 0x6C, 0x69, 0x6D, 0x62, 0x61],  -- Kalimba
   [0x42, 0x61, 0x67, 0x20, 0x70, 0x69, 0x70, 0x65],  -- Bag pipe
   [0x46, 0x69, 0x64, 0x64, 0x6C, 0x65],  -- Fiddle
   [0x53, 0x68, 0x61, 0x6E, 0x61, 0x69]]  -- Shanai

/-- Program names 112 to 127. -/
def gmNames7 : List Bytes :=
  [[0x54, 0x69, 0x6E, 0x6B, 0x6C, 0x65, 0x20, 0x42, 0x65, 0x6C, 0x6C],  -- Tinkle Bell
   [0x41, 0x67, 0x6F, 0x67, 0x6F],  -- Agogo
   [0x53, 0x74, 0x65, 0x65, 0x6C, 0x20, 0x44, 0x72, 0x75, 0x6D, 0x73],  -- Steel Drums
   [0x57, 0x6F, 0x6F, 0x64, 0x62, 0x6C, 0x6F, 0x63, 0x6B],  -- Woodblock
   [0x54, 0x61, 0x69, 0x6B, 0x6F, 0x20, 0x44, 0x72, 0x75, 0x6D],  -- Taiko Drum
   [0x4D, 0x65, 0x6C, 0x6F, 0x64, 0x69, 0x63, 0x20, 0x54, 0x6F, 0x6D],  -- Melodic Tom
   [0x53, 0x79, 0x6E, 0x74, 0x68, 0x20, 0x44, 0x72, 0x75, 0x6D],  -- Synth Drum
   [0x52, 0x65, 0x76, 0x65, 0x72, 0x73, 0x65, 0x20, 0x43, 0x79, 0x6D, 0x62, 0x61, 0x6C],  -- Reverse Cymbal
   [0x47, 0x75, 0x69, 0x74, 0x61, 0x72, 0x20, 0x46, 0x72, 0x65, 0x74, 0x20, 0x4E, 0x6F, 0x69, 0x73, 0x65],  -- Guitar Fret Noise
   [0x42, 0x72, 0x65, 0x61, 0x74, 0x68, 0x20, 0x4E, 0x6F, 0x69, 0x73, 0x65],  -- Breath Noise
   [0x53, 0x65, 0x61, 0x73, 0x68, 0x6F, 0x72, 0x65],  -- Seashore
   [0x42, 0x69, 0x72, 0x64, 0x20, 0x54, 0x77, 0x65, 0x65, 0x74],  -- Bird Tweet
   [0x54, 0x65, 0x6C, 0x65, 0x70, 0x68, 0x6F, 0x6E, 0x65, 0x20, 0x52, 0x69, 0x6E, 0x67],  -- Telephone Ring
   [0x48, 0x65, 0x6C, 0x69, 0x63, 0x6F, 0x70, 0x74, 0x65, 0x72],  -- Helicopter
   [0x41, 0x70, 0x70, 0x6C, 0x61, 0x75, 0x73, 0x65],  -- Applause
   [0x47, 0x75, 0x6E, 0x73, 0x68, 0x6F, 0x74]]  -- Gunshot

/-- The default GM_NAME table (93_implementation_defined.md G3). -/
def gmNames : List Bytes :=
  gmNames0 ++ gmNames1 ++ gmNames2 ++ gmNames3 ++ gmNames4 ++ gmNames5 ++ gmNames6 ++ gmNames7

/-- The default column of 00_scope.md R11, which the spec's test vectors use (DESIGN CHOICE as the configuration at reset,
log 4, unsafe: a claim at reset rests on values the source document does not state). -/
def Config.default : Config where
  flagsOff := 39
  fbconnOff := 40
  carOff := 42
  modOff := 47
  gmName := ⟨gmNames.toArray, rfl⟩
  maxLen := none

/-- DEV_RESET (00_scope.md R11, 10_state.md R47): byte `k` of slot `s` of the device's register file at power-up. Nothing
constrains it (log 5). -/
opaque Config.devReset (slot k : Nat) : Byte

/-- 60_exceptions.md R288, 93 U8: whether the device's `n`-th free choice is to send its image with the unused bits as it
holds them (true) or with them cleared (false). Nothing constrains it (log 6). -/
opaque Config.replyKeepsUnusedBits (n : Nat) : Bool

/-- 93 U6: byte `k` that a slot holds after the `n`-th free effect, a parameter update with an offset above 11. Nothing
constrains it (log 7). -/
opaque Config.strayByte (n k : Nat) : Byte

/-- 93 U6: what the device sends, if anything, after the `n`-th free effect, a parameter update with an offset above 11.
Nothing constrains it (log 7). -/
opaque Config.strayReplies (n : Nat) : List Bytes

end Sys2Proof
end

