-- ==== Sys2Proof/Machine/Operands.lean ====
section
/-! DEFINITION. Operand forms: bit fields and slices of 00_scope.md section 4, the checked read (R64), the field table
(R84 to R86, R95, R103), slot normalisation (R105), the length bound (R83). -/

namespace Sys2Proof.Machine

/-- `v[hi:lo]` of 00_scope.md section 4. -/
def bits (v : Byte) (hi lo : Nat) : Nat := (v.toNat >>> lo) % 2 ^ (hi - lo + 1)

/-- `bit(b)` of 00_scope.md section 4, as the byte that holds it. -/
def boolByte (b : Bool) : Byte := if b then 1 else 0

/-- The byte that stores an integer. Every value stored this way has passed its range check (R140, R147). -/
def byteOfInt (v : Int) : Byte := BitVec.ofInt 8 v

/-- `b[i:j)` of 00_scope.md section 4: empty when `j ≤ i`. -/
def slice (b : Bytes) (i j : Nat) : Bytes := (b.drop i).take (j - i)

/-- MemRead of 00_scope.md section 4: the `n` bytes at `off`, or none when they do not all lie inside the buffer (R64). -/
def memRead (buf : Bytes) (off n : Nat) : Option Bytes :=
  if off + n ≤ buf.length then some (slice buf off (off + n)) else none

/-- R40: a byte list as a RegisterImage, none when its length is not 12. -/
def imageOfBytes (b : Bytes) : Option Image :=
  if h : b.length = 12 then some ⟨b.toArray, h⟩ else none

end Sys2Proof.Machine

namespace Sys2Proof

/-- R85: the field of an id, none for FID 15 (R86). -/
def InsField.ofFid : Nat → Option InsField
  | 0 => some .drumChannel
  | 1 => some .feedback
  | 2 => some .frequencyModulation
  | 3 => some .tremolo
  | 4 => some .vibrato
  | 5 => some .sustaining
  | 6 => some .envelopeScaling
  | 7 => some .frequencyMultiplier
  | 8 => some .keyScale
  | 9 => some .outputLevel
  | 10 => some .attack
  | 11 => some .decay
  | 12 => some .sustain
  | 13 => some .release
  | 14 => some .waveform
  | _ => none

/-- R85: FID. -/
def InsField.fid : InsField → Nat
  | .drumChannel => 0
  | .feedback => 1
  | .frequencyModulation => 2
  | .tremolo => 3
  | .vibrato => 4
  | .sustaining => 5
  | .envelopeScaling => 6
  | .frequencyMultiplier => 7
  | .keyScale => 8
  | .outputLevel => 9
  | .attack => 10
  | .decay => 11
  | .sustain => 12
  | .release => 13
  | .waveform => 14

/-- R85: the scope column, shared for FID 0 to 2. -/
def InsField.shared : InsField → Bool
  | .drumChannel => true
  | .feedback => true
  | .frequencyModulation => true
  | .tremolo => false
  | .vibrato => false
  | .sustaining => false
  | .envelopeScaling => false
  | .frequencyMultiplier => false
  | .keyScale => false
  | .outputLevel => false
  | .attack => false
  | .decay => false
  | .sustain => false
  | .release => false
  | .waveform => false

/-- R85: column k. -/
def InsField.k : InsField → Nat
  | .drumChannel => 0
  | .feedback => 6
  | .frequencyModulation => 6
  | .tremolo => 0
  | .vibrato => 0
  | .sustaining => 0
  | .envelopeScaling => 0
  | .frequencyMultiplier => 0
  | .keyScale => 1
  | .outputLevel => 1
  | .attack => 2
  | .decay => 2
  | .sustain => 3
  | .release => 3
  | .waveform => 4

/-- R85: the field's low bit. -/
def InsField.lo : InsField → Nat
  | .drumChannel => 0
  | .feedback => 1
  | .frequencyModulation => 0
  | .tremolo => 7
  | .vibrato => 6
  | .sustaining => 5
  | .envelopeScaling => 4
  | .frequencyMultiplier => 0
  | .keyScale => 6
  | .outputLevel => 0
  | .attack => 4
  | .decay => 0
  | .sustain => 4
  | .release => 0
  | .waveform => 0

/-- R103: the field's width in bits. -/
def InsField.width : InsField → Nat
  | .drumChannel => 8
  | .feedback => 3
  | .frequencyModulation => 1
  | .tremolo => 1
  | .vibrato => 1
  | .sustaining => 1
  | .envelopeScaling => 1
  | .frequencyMultiplier => 4
  | .keyScale => 2
  | .outputLevel => 6
  | .attack => 4
  | .decay => 4
  | .sustain => 4
  | .release => 4
  | .waveform => 2

/-- R85: FMASK, the bits the field occupies. -/
def InsField.fmask : InsField → Byte
  | .drumChannel => 0xFF
  | .feedback => 0x0E
  | .frequencyModulation => 0x01
  | .tremolo => 0x80
  | .vibrato => 0x40
  | .sustaining => 0x20
  | .envelopeScaling => 0x10
  | .frequencyMultiplier => 0x0F
  | .keyScale => 0xC0
  | .outputLevel => 0x3F
  | .attack => 0xF0
  | .decay => 0x0F
  | .sustain => 0xF0
  | .release => 0x0F
  | .waveform => 0x03

/-- R85: the top of the value range, which starts at 0. -/
def InsField.maxValue : InsField → Int
  | .drumChannel => 255
  | .feedback => 7
  | .frequencyModulation => 1
  | .tremolo => 1
  | .vibrato => 1
  | .sustaining => 1
  | .envelopeScaling => 1
  | .frequencyMultiplier => 15
  | .keyScale => 3
  | .outputLevel => 63
  | .attack => 15
  | .decay => 15
  | .sustain => 15
  | .release => 15
  | .waveform => 3

/-- R85: `v` lies in the field's value range. -/
def InsField.inRange (f : InsField) (v : Int) : Bool := decide (0 ≤ v ∧ v ≤ f.maxValue)

/-- R95, R103: the polarity function, the stored bits as a function of the value. -/
def InsField.stored (f : InsField) (v : Int) : Int :=
  match f with
  | .outputLevel => 63 - v
  | .sustain => 15 - v
  | .frequencyModulation => if v = 1 then 0 else 1
  | _ => v

/-- R84: OPSEL as bit 4 of a field selector. -/
def OpSel.bit : OpSel → Nat
  | .modulator => 0
  | .carrier => 1

/-- R85: where an operator's five bytes start in the image. -/
def OpSel.base : OpSel → Nat
  | .modulator => 1
  | .carrier => 7

/-- R85: the field's byte in the RegisterImage. -/
def InsField.offset (f : InsField) (op : OpSel) : Nat := if f.shared then f.k else op.base + f.k

/-- R84, R108: `fsel = FID | (OPSEL << 4)`. A shared field has OPSEL 0. -/
def InsField.fsel (f : InsField) (op : OpSel) : Byte :=
  BitVec.ofNat 8 (f.fid ||| ((if f.shared then 0 else op.bit) <<< 4))

/-- R84, R86: what a field selector names, none when it is illegal: bits 7:5 not 0, FID 15, or OPSEL 1 with FID ≤ 2. -/
def InsField.ofFsel (fsel : Byte) : Option (InsField × OpSel) :=
  if Machine.bits fsel 7 5 ≠ 0 then none
  else
    match InsField.ofFid (Machine.bits fsel 3 0) with
    | none => none
    | some f =>
      if Machine.bits fsel 4 4 = 0 then some (f, .modulator)
      else if f.shared then none
      else some (f, .carrier)

/-- The operator a selector names. -/
def Instrument.operator (ins : Instrument) : OpSel → Operator
  | .modulator => ins.modulator
  | .carrier => ins.carrier

/-- The instrument with one operator replaced. -/
def Instrument.withOperator (ins : Instrument) (op : OpSel) (o : Operator) : Instrument :=
  match op with
  | .modulator => { ins with modulator := o }
  | .carrier => { ins with carrier := o }

/-- R82: the value of a field as an integer, 1 for true and 0 for false. -/
def Instrument.getField (ins : Instrument) (f : InsField) (op : OpSel) : Int :=
  match f with
  | .drumChannel => ins.drumChannel
  | .feedback => ins.feedback
  | .frequencyModulation => ins.frequencyModulation.toInt
  | .tremolo => (ins.operator op).tremolo.toInt
  | .vibrato => (ins.operator op).vibrato.toInt
  | .sustaining => (ins.operator op).sustaining.toInt
  | .envelopeScaling => (ins.operator op).envelopeScaling.toInt
  | .frequencyMultiplier => (ins.operator op).frequencyMultiplier
  | .keyScale => (ins.operator op).keyScale
  | .outputLevel => (ins.operator op).outputLevel
  | .attack => (ins.operator op).attack
  | .decay => (ins.operator op).decay
  | .sustain => (ins.operator op).sustain
  | .release => (ins.operator op).release
  | .waveform => (ins.operator op).waveform

/-- 41_register_codec.md R148: the instrument with one field set to a value; a Boolean field is true when the value is 1. -/
def Instrument.setField (ins : Instrument) (f : InsField) (op : OpSel) (v : Int) : Instrument :=
  let o := ins.operator op
  match f with
  | .drumChannel => { ins with drumChannel := v }
  | .feedback => { ins with feedback := v }
  | .frequencyModulation => { ins with frequencyModulation := decide (v = 1) }
  | .tremolo => ins.withOperator op { o with tremolo := decide (v = 1) }
  | .vibrato => ins.withOperator op { o with vibrato := decide (v = 1) }
  | .sustaining => ins.withOperator op { o with sustaining := decide (v = 1) }
  | .envelopeScaling => ins.withOperator op { o with envelopeScaling := decide (v = 1) }
  | .frequencyMultiplier => ins.withOperator op { o with frequencyMultiplier := v }
  | .keyScale => ins.withOperator op { o with keyScale := v }
  | .outputLevel => ins.withOperator op { o with outputLevel := v }
  | .attack => ins.withOperator op { o with attack := v }
  | .decay => ins.withOperator op { o with decay := v }
  | .sustain => ins.withOperator op { o with sustain := v }
  | .release => ins.withOperator op { o with release := v }
  | .waveform => ins.withOperator op { o with waveform := v }

end Sys2Proof

namespace Sys2Proof.Machine

/-- R105: `round(q) = floor(q + 1/2)`, with `q = num/den` written over the common denominator `2·den`, the nearest integer,
a tie going up. -/
def roundHalfUp (q : Rat) : Int := (2 * q.num + q.den) / (2 * q.den)

/-- R105: the slot number of a slot operand, rounded and then clamped to 0..15. -/
def slotOf (q : Rat) : Fin 16 := ⟨(min 15 (max 0 (roundHalfUp q))).toNat, by omega⟩

/-- R83, R277: a Bytes operand longer than MAX_LEN is refused before the operation starts. -/
def checkLength (cfg : Config) (data : Bytes) : Except ErrorInfo Unit :=
  match cfg.maxLen with
  | none => .ok ()
  | some n => if n < data.length then .error (.illegalRequest .tooLong) else .ok ()

/-- R140: the integer fields of an operator, in the order `check` tests them. -/
def operatorCheckOrder : List InsField :=
  [.frequencyMultiplier, .keyScale, .outputLevel, .attack, .decay, .sustain, .release, .waveform]

/-- R140: every integer field of an instrument, in the order `check` tests them. -/
def checkOrder : List (InsField × OpSel) :=
  [(.drumChannel, .modulator), (.feedback, .modulator)]
    ++ operatorCheckOrder.map (·, .modulator) ++ operatorCheckOrder.map (·, .carrier)

/-- R140: `check(ins)`, the first field out of range raises InvalidRange with its selector and its value. -/
def checkInstrument (ins : Instrument) : Except ErrorInfo Unit :=
  match checkOrder.find? fun fo => !fo.1.inRange (ins.getField fo.1 fo.2) with
  | none => .ok ()
  | some fo => .error (.invalidRange (fo.1.fsel fo.2) (ins.getField fo.1 fo.2))

end Sys2Proof.Machine
end

