-- ==== Sys2Proof/Machine/State.lean ====
section
/-! DEFINITION. The state of the machine: the block's two ports, its configuration, and the device's register file with
the device's wire back to the host (INVENTORY.md, State). The block itself holds nothing between operations (R30). -/

namespace Sys2Proof.Machine

/-- What the host presents. `resetDuring r` is reset asserted while the block performs `r`, or while it is idle (none)
(70_reset_and_hazards.md R300). -/
inductive Event where
  | arrive (p : Packet)
  | resetDuring (inProgress : Option Request)
deriving DecidableEq, Repr

/-- R45: the receiving device's register file, one image for each of the 16 slots. -/
abbrev DeviceFile := Vector Image 16

/-- The machine.
`cfg`: the configuration (R44), the same in every step.
`events`: the request port and the wire to the device, oldest first (R33, R34).
`responses`: the response port, the responses given and not yet taken, oldest first (R34, R36).
`dev`: the device's register file (R45).
`replies`: the frames the device has sent the host and the host has not yet taken, oldest first (60_exceptions.md R288).
`free`: the MODEL's own counter of the free values drawn so far (log 15). -/
structure State where
  cfg : Config
  events : List Event
  responses : List Response
  dev : DeviceFile
  replies : List Bytes
  free : Nat
deriving DecidableEq, Repr

/-- No step of this machine ends in a fault: "the block has no fatal state" (60_exceptions.md R281), and an error is a
response (R270). Nobody raises one; the type has no constructor (log 17). -/
inductive Fault where
deriving DecidableEq, Repr

/-- Why an instruction is refused. -/
inductive Refusal where
  /-- Raised by `exec` alone, for an instruction of the table that has no meaning yet; safe. No arm raises it: every
  instruction has its meaning. -/
  | notModelled (mnemonic : String)
deriving DecidableEq, Repr

/-- R47: the machine after reset. The configuration is R11's default column (log 4), the device's register file is the
unconstrained DEV_RESET (log 5), nothing is presented, no response is pending, no reply is on the wire (log 9). -/
def State.reset : State where
  cfg := Config.default
  events := []
  responses := []
  dev := Vector.ofFn fun s => Vector.ofFn fun k => Config.devReset s.val k.val
  replies := []
  free := 0

/-- What fetching finds: an instruction to run in the state that remains, or nothing to run, the state being settled. -/
inductive Fetched where
  | run (i : Instr) (s : State)
  | done (s : State)
deriving DecidableEq, Repr

end Sys2Proof.Machine
end

