-- ==== Sys2Proof/Machine/Ops.lean ====
section
/-! DEFINITION. The named operations over the state: giving a response, raising an error, the device's register file, the
device's wire to the host, reset of the block. -/

namespace Sys2Proof.Machine

/-- R33, R34: the block gives one response, after those it gave before (R70). -/
def State.respond (s : State) (r : Response) : State := { s with responses := s.responses ++ [r] }

/-- R270: raising an error. The response `Err(kind, info)` takes the place of the result; nothing else is saved, redirected
or changed, and there is nothing to return from (R279). -/
def State.raise (s : State) (e : ErrorInfo) : State := s.respond (.err e)

/-- 00_scope.md section 4: an operation ends with `return v` or `raise K(info)`. -/
def State.answer (s : State) (result : Except ErrorInfo Value) : State :=
  match result with
  | .ok v => s.respond (.ok v)
  | .error e => s.raise e

/-- R300, R301, R47: reset of the block. No response is pending after it; the configuration is unchanged, and so is the
device, which is not the block (log 8). -/
def State.blockReset (s : State) : State := { s with responses := [] }

/-- R45: the image a slot of the device holds. -/
def State.devSlot (s : State) (slot : Fin 16) : Image := s.dev[slot.val]

/-- R45: the device's slot takes an image. -/
def State.setDevSlot (s : State) (slot : Fin 16) (m : Image) : State := { s with dev := s.dev.set slot.val m }

/-- R288: the device sends the host frames. -/
def State.sendReplies (s : State) (frames : List Bytes) : State := { s with replies := s.replies ++ frames }

/-- The model's own counter moves past a free value that has been drawn (log 15). -/
def State.drawFree (s : State) : State := { s with free := s.free + 1 }

/-- R146: the mask `K` of the bits that fields occupy. -/
def usedBits : Image := #v[0xFF, 0xFF, 0xFF, 0xFF, 0xFF, 0x03, 0x0F, 0xFF, 0xFF, 0xFF, 0xFF, 0x03]

/-- R146: `m & K`, bytewise. -/
def clearUnused (m : Image) : Image := Vector.ofFn fun k => m[k.val] &&& usedBits[k.val]

/-- R288, R72: `register[offset] = (register[offset] & mask) | value` on one image, for an offset that names a byte. An
offset above 11 names none (R62) and is the caller's to treat. -/
def applyTriple (m : Image) (t : Triple) : Image :=
  if h : t.offset.toNat < 12 then m.set t.offset.toNat ((m[t.offset.toNat] &&& t.mask) ||| t.value) else m

end Sys2Proof.Machine
end

