-- ==== Sys2Proof/Machine/RegisterCodec.lean ====
section
/-! DEFINITION. The RegisterCodec: RC.ENC, RC.DEC and RC.TRIPLE (41_register_codec.md). -/

namespace Sys2Proof.Machine

/-- R141: an operator's byte 0, 2, 3, ... of the image, `base + 0` to `base + 4`, each the exclusive or of its fields'
contributions. -/
def operatorByte0 (op : Operator) : Byte :=
  (boolByte op.tremolo <<< 7) ^^^ (boolByte op.vibrato <<< 6) ^^^ (boolByte op.sustaining <<< 5)
    ^^^ (boolByte op.envelopeScaling <<< 4) ^^^ byteOfInt op.frequencyMultiplier

/-- R141: `base + 1`. -/
def operatorByte1 (op : Operator) : Byte := (byteOfInt op.keyScale <<< 6) ^^^ byteOfInt (63 - op.outputLevel)

/-- R141: `base + 2`. -/
def operatorByte2 (op : Operator) : Byte := (byteOfInt op.attack <<< 4) ^^^ byteOfInt op.decay

/-- R141: `base + 3`. -/
def operatorByte3 (op : Operator) : Byte := (byteOfInt (15 - op.sustain) <<< 4) ^^^ byteOfInt op.release

/-- R141: `base + 4`. -/
def operatorByte4 (op : Operator) : Byte := byteOfInt op.waveform

/-- R141: byte 6, feedback and the inverted frequencyModulation. -/
def connectionByte (ins : Instrument) : Byte :=
  (byteOfInt ins.feedback <<< 1) ^^^ boolByte (!ins.frequencyModulation)

/-- R141, R95: the image of an instrument that has passed `check`. -/
def imageOf (ins : Instrument) : Image :=
  #v[byteOfInt ins.drumChannel,
     operatorByte0 ins.modulator, operatorByte1 ins.modulator, operatorByte2 ins.modulator,
     operatorByte3 ins.modulator, operatorByte4 ins.modulator,
     connectionByte ins,
     operatorByte0 ins.carrier, operatorByte1 ins.carrier, operatorByte2 ins.carrier,
     operatorByte3 ins.carrier, operatorByte4 ins.carrier]

/-- R141: RegisterCodec.encode. -/
def rcEnc (ins : Instrument) : Except ErrorInfo Image := do
  checkInstrument ins
  return imageOf ins

/-- R143: `decOp`. -/
def decodeOperator (b0 b1 b2 b3 b4 : Byte) : Operator where
  tremolo := b0.getLsbD 7
  vibrato := b0.getLsbD 6
  sustaining := b0.getLsbD 5
  envelopeScaling := b0.getLsbD 4
  frequencyMultiplier := bits b0 3 0
  keyScale := bits b1 7 6
  outputLevel := 63 - bits b1 5 0
  attack := bits b2 7 4
  decay := bits b2 3 0
  sustain := 15 - bits b3 7 4
  release := bits b3 3 0
  waveform := bits b4 1 0

/-- R143: RegisterCodec.decode, total on every image. -/
def rcDec (img : Image) : Instrument where
  drumChannel := img[0].toNat
  feedback := bits img[6] 3 1
  frequencyModulation := !img[6].getLsbD 0
  modulator := decodeOperator img[1] img[2] img[3] img[4] img[5]
  carrier := decodeOperator img[7] img[8] img[9] img[10] img[11]

/-- R147: the parameter triple of a field's value. -/
def tripleOf (f : InsField) (op : OpSel) (v : Int) : Triple where
  offset := BitVec.ofNat 8 (f.offset op)
  mask := 0xFF ^^^ f.fmask
  value := byteOfInt (f.stored v) <<< f.lo

/-- R147: RC.TRIPLE. The selector is tested first, then the value's range. -/
def rcTriple (fsel : Byte) (value : Int) : Except ErrorInfo Triple :=
  match InsField.ofFsel fsel with
  | none => .error (.illegalRequest .badFieldSelector)
  | some fo =>
    if fo.1.inRange value then .ok (tripleOf fo.1 fo.2 value) else .error (.invalidRange fsel value)

/-- RC.ENC (R141): an instrument out of range raises InvalidRange and no image is made (R140). -/
def execRcEnc (ins : Instrument) (s : State) : Host.Outcome State Fault Refusal :=
  .next (s.answer do
    return .image (← rcEnc ins))

/-- RC.DEC (R143): TooLong first, then a length that is not 12 (R277, R40). -/
def execRcDec (img : Bytes) (s : State) : Host.Outcome State Fault Refusal :=
  .next (s.answer do
    checkLength s.cfg img
    match imageOfBytes img with
    | none => .error (.illegalRequest .badImageLength)
    | some m => return .instrument (rcDec m))

/-- RC.TRIPLE (R147). -/
def execRcTriple (fsel : Byte) (value : Int) (s : State) : Host.Outcome State Fault Refusal :=
  .next (s.answer do
    return .triple (← rcTriple fsel value))

end Sys2Proof.Machine
end

