-- ==== Sys2Proof/Machine/BankFileParser.lean ====
section
/-! DEFINITION. The BankFileParser: BF.PARSE (43_bank_file_parser.md; 30_encoding.md R98 to R102). -/

namespace Sys2Proof.Machine

/-- R98: "WOPL3-BANK" and a NUL. -/
def magic : Bytes := [0x57, 0x4F, 0x50, 0x4C, 0x33, 0x2D, 0x42, 0x41, 0x4E, 0x4B, 0x00]

/-- R64: a checked read of the file. A read that does not fit raises Truncated with the length it would need; after the
bounds check of R235 none does (log 14). -/
def readBytes (file : Bytes) (off n : Nat) : Except ErrorInfo Bytes :=
  match memRead file off n with
  | some b => .ok b
  | none => .error (.unsupportedFileFormat .truncated (off + n))

/-- R67: a checked read of one byte. -/
def readByte (file : Bytes) (off : Nat) : Except ErrorInfo Byte :=
  match file[off]? with
  | some b => .ok b
  | none => .error (.unsupportedFileFormat .truncated (off + 1))

/-- R63: a little-endian u16. -/
def readU16le (file : Bytes) (off : Nat) : Except ErrorInfo Nat := do
  let lo ← readByte file off
  let hi ← readByte file (off + 1)
  return lo.toNat ||| (hi.toNat <<< 8)

/-- R63: a big-endian u16. -/
def readU16be (file : Bytes) (off : Nat) : Except ErrorInfo Nat := do
  let hi ← readByte file off
  let lo ← readByte file (off + 1)
  return (hi.toNat <<< 8) ||| lo.toNat

/-- R232: the header fields that matter; flags and model are not used (R245). -/
structure BankHeader where
  version : Nat
  melodic : Nat
  percussion : Nat
deriving DecidableEq, Repr

/-- R233. -/
def recordSize (hd : BankHeader) : Nat := if hd.version > 2 then 66 else 62

/-- R234. -/
def tableOffset (hd : BankHeader) : Nat :=
  if hd.version ≥ 2 then 19 + 34 * (hd.melodic + hd.percussion) else 19

/-- R235: the length a file must have. -/
def neededLength (hd : BankHeader) : Nat := tableOffset hd + hd.melodic * 128 * recordSize hd

/-- R238: where a record starts. -/
def recordOffset (hd : BankHeader) (i pos : Nat) : Nat :=
  tableOffset hd + i * recordSize hd * 128 + pos * recordSize hd

/-- R236: up to, and not including, the first NUL. -/
def ntrim (b : Bytes) : Bytes := b.takeWhile (· ≠ 0)

/-- R236: the decimal digits of a number below `10 ^ fuel`, ASCII, no leading zero. -/
def decDigits : Nat → Nat → Bytes
  | 0, _ => []
  | fuel + 1, n =>
    if n < 10 then [BitVec.ofNat 8 (0x30 + n)] else decDigits fuel (n / 10) ++ [BitVec.ofNat 8 (0x30 + n % 10)]

/-- R236: `dec(i)`. -/
def dec (i : Nat) : Bytes := decDigits (i + 1) i

/-- R236: "Unnamed Bank". -/
def unnamedBank : Bytes := [0x55, 0x6E, 0x6E, 0x61, 0x6D, 0x65, 0x64, 0x20, 0x42, 0x61, 0x6E, 0x6B]

/-- R236, R237: a label, from the index and the bank's name, empty where there is none. -/
def labelOf (i : Nat) (name : Bytes) : Bytes :=
  [0x5B] ++ dec i ++ [0x5D, 0x20] ++ (if name = [] then unnamedBank else name)

/-- R231, R232: the magic check and the header. -/
def readHeader (file : Bytes) : Except ErrorInfo BankHeader :=
  if file.length < 11 ∨ slice file 0 11 ≠ magic then .error (.unsupportedFileFormat .badMagic 0)
  else if file.length < 19 then .error (.unsupportedFileFormat .truncated 19)
  else do
    let version ← readU16le file 11
    let melodic ← readU16be file 13
    let percussion ← readU16be file 15
    return ⟨version, melodic, percussion⟩

/-- R236, R237: the label of melodic bank `i`. -/
def bankLabel (file : Bytes) (hd : BankHeader) (i : Nat) : Except ErrorInfo Bytes :=
  if hd.version ≥ 2 then do
    let nm ← readBytes file (19 + 34 * i) 32
    return labelOf i (ntrim nm)
  else .ok (labelOf i [])

/-- R240: the name of a kept slot. -/
def slotName (cfg : Config) (pos : Nat) (field : Bytes) : Bytes :=
  if ntrim field = [] then cfg.gmName.toList.getD pos [] else ntrim field

/-- R238 to R242: the record at `r`, of slot `pos`: none when its mode flags skip it. -/
def readRecord (cfg : Config) (file : Bytes) (r pos : Nat) : Except ErrorInfo (Option (Bytes × Instrument)) := do
  let flags ← readByte file (r + cfg.flagsOff.val)
  if flags &&& 0x07 ≠ 0 then return none
  else
    let name ← readBytes file r 32
    let modulator ← readBytes file (r + cfg.modOff.val) 5
    let fbconn ← readByte file (r + cfg.fbconnOff.val)
    let carrier ← readBytes file (r + cfg.carOff.val) 5
    return (imageOfBytes ([0x00] ++ modulator ++ [fbconn] ++ carrier)).map fun img =>
      (slotName cfg pos name, rcDec img)

/-- R230 step 5, R243: melodic bank `i`. The list holds the kept slots in increasing position. -/
def readBank (cfg : Config) (file : Bytes) (hd : BankHeader) (i : Nat) : Except ErrorInfo BankEntry := do
  let label ← bankLabel file hd i
  let slots ← (List.range 128).mapM fun pos => readRecord cfg file (recordOffset hd i pos) pos
  return ⟨label, slots.filterMap id⟩

/-- R230: BankFileParser.parse. -/
def bfParse (cfg : Config) (file : Bytes) : Except ErrorInfo Bank := do
  let hd ← readHeader file
  if file.length < neededLength hd then .error (.unsupportedFileFormat .truncated (neededLength hd))
  else (List.range hd.melodic).mapM fun i => readBank cfg file hd i

/-- BF.PARSE (R230): no partial result; a skipped slot is no error (R276). -/
def execBfParse (file : Bytes) (s : State) : Host.Outcome State Fault Refusal :=
  .next (s.answer do
    checkLength s.cfg file
    return .bank (← bfParse s.cfg file))

end Sys2Proof.Machine
end

