-- ==== Sys2Proof/Machine/BitPacker.lean ====
section
/-! DEFINITION. The BitPacker: BP.ENC and BP.DEC (40_bitpacker.md). -/

namespace Sys2Proof.Machine

/-- R93, R107, R120, R121: a sequence cut into groups of `size` bytes from its start, the last one shorter when the length
is no multiple. Group `g` is `data[size·g : min(size·g + size, n))`. -/
def groups (size : Nat) (data : Bytes) : List Bytes :=
  (List.range ((data.length + (size - 1)) / size)).map fun g => slice data (size * g) (size * g + size)

/-- R93, R120: the header of a group, whose bit `6 - i` is bit 7 of byte `i`. -/
def groupHeader (grp : Bytes) : Byte :=
  grp.zipIdx.foldl (fun h bi => h ||| (boolByte (bi.1.getLsbD 7) <<< (6 - bi.2))) 0

/-- R93, R120: a group encodes to its header and the low 7 bits of its bytes. -/
def encodeGroup (grp : Bytes) : Bytes := groupHeader grp :: grp.map (· &&& 0x7F)

/-- R121: body byte `j` takes header bit `6 - j` as its bit 7, by an OR. A header alone yields nothing; header bit 7 and
the bits of absent body bytes are not read (R127). -/
def decodeGroup : Bytes → Bytes
  | [] => []
  | h :: body => body.zipIdx.map fun bj => bj.1 ||| (boolByte (h.getLsbD (6 - bj.2)) <<< 7)

/-- R120: BitPacker.encode. -/
def bpEnc (data : Bytes) : Bytes := (groups 7 data).flatMap encodeGroup

/-- R121: BitPacker.decode, total on every byte sequence. -/
def bpDec (data : Bytes) : Bytes := (groups 8 data).flatMap decodeGroup

/-- BP.ENC (R120): the only error is TooLong (R83). -/
def execBpEnc (data : Bytes) (s : State) : Host.Outcome State Fault Refusal :=
  .next (s.answer do
    checkLength s.cfg data
    return .bytes (bpEnc data))

/-- BP.DEC (R121): the only error is TooLong (R83). -/
def execBpDec (data : Bytes) (s : State) : Host.Outcome State Fault Refusal :=
  .next (s.answer do
    checkLength s.cfg data
    return .bytes (bpDec data))

end Sys2Proof.Machine
end

