-- ==== Sys2Proof/Machine/MessageFramer.lean ====
section
/-! DEFINITION. The MessageFramer: the four builds, MF.PARSE, and the pseudo-instruction MF.DELTA (42_message_framer.md;
30_encoding.md R87 to R91, R109). -/

namespace Sys2Proof.Machine

/-- R10, R87. -/
def sox : Byte := 0xF0

/-- R10, R87. -/
def vendor : Byte := 0x7D

/-- R10, R87. -/
def eox : Byte := 0xF7

/-- R87: a frame with its two reserved bytes. -/
def frameBytes (cmd : Byte) (reserved : Byte × Byte) (slot : Fin 16) (payload : Bytes) : Bytes :=
  [sox, vendor, cmd, reserved.1, reserved.2, BitVec.ofNat 8 slot.val] ++ bpEnc payload ++ [eox]

/-- R180: the common frame builder; a build writes 0x00 to both reserved bytes (R89) and never refuses a slot. -/
def frame (cmd : Byte) (q : Rat) (payload : Bytes) : Bytes := frameBytes cmd (0, 0) (slotOf q) payload

/-- R97: the payload bytes of a triple. -/
def tripleBytes (t : Triple) : Bytes := [t.offset, t.mask, t.value]

/-- R88: the encoded payload length of a COMMAND. -/
def encodedLength (cmd : Byte) : Nat := [14, 4, 0, 14].getD cmd.toNat 0

/-- R97: three payload bytes as a triple, none when they are not three. -/
def tripleOfBytes : Bytes → Option Triple
  | [offset, mask, value] => some ⟨offset, mask, value⟩
  | _ => none

/-- R191: the result of a frame whose checks have passed; none when the payload does not have its command's length or the
command is none of the four, which the checks exclude (log 14). -/
def parsedResult (cmd : Byte) (slot : Fin 16) (reserved : Byte × Byte) (payload : Bytes) : Option ParsedFrame :=
  if cmd = 0x00 then (imageOfBytes payload).map fun m => .dump slot reserved m
  else if cmd = 0x01 then (tripleOfBytes payload).map fun t => .paramUpdate slot reserved t
  else if cmd = 0x02 then (if payload = [] then some (.request slot reserved) else none)
  else if cmd = 0x03 then (imageOfBytes payload).map fun m => .response slot reserved m (rcDec m)
  else none

/-- R190: MF.PARSE. The checks run in the rule's order and the first that fails is reported. Every index read is below the
length, by the first check (R193, R64). -/
def mfParse (frame : Bytes) : Except ErrorInfo ParsedFrame :=
  if h : frame.length < 7 then .error (.malformedFrame .tooShort frame.length)
  else if frame[0] ≠ sox then .error (.malformedFrame .badSOX 0)
  else if frame[1] ≠ vendor then .error (.malformedFrame .badVendor 1)
  else if frame[frame.length - 1] ≠ eox then .error (.malformedFrame .badEOX (frame.length - 1))
  else if frame[2].toNat > 3 then .error (.malformedFrame .unknownCommand 2)
  else if hs : frame[5].toNat > 15 then .error (.malformedFrame .badSlot 5)
  else
    let enc := slice frame 6 (frame.length - 1)
    match enc.findIdx? (fun b => b.getLsbD 7) with
    | some j => .error (.malformedFrame .payloadHighBit (6 + j))
    | none =>
      if enc.length ≠ encodedLength frame[2] then .error (.malformedFrame .payloadLength enc.length)
      else
        match parsedResult frame[2] ⟨frame[5].toNat, by omega⟩ (frame[3], frame[4]) (bpDec enc) with
        | some p => .ok p
        | none => .error (.malformedFrame .payloadLength enc.length)

/-- MF.BUILD.DUMP (R181): InvalidRange is raised before any byte is built. -/
def execMfBuildDump (slot : Rat) (ins : Instrument) (s : State) : Host.Outcome State Fault Refusal :=
  .next (s.answer do
    let m ← rcEnc ins
    return .bytes (frame 0x00 slot m.toList))

/-- MF.BUILD.PARAM (R182): the errors are RC.TRIPLE's. -/
def execMfBuildParam (slot : Rat) (fsel : Byte) (value : Int) (s : State) : Host.Outcome State Fault Refusal :=
  .next (s.answer do
    let t ← rcTriple fsel value
    return .bytes (frame 0x01 slot (tripleBytes t)))

/-- MF.BUILD.REQ (R183): no error. -/
def execMfBuildReq (slot : Rat) (s : State) : Host.Outcome State Fault Refusal :=
  .next (s.answer (.ok (.bytes (frame 0x02 slot []))))

/-- MF.BUILD.RESP (R184): InvalidRange is raised before any byte is built. -/
def execMfBuildResp (slot : Rat) (ins : Instrument) (s : State) : Host.Outcome State Fault Refusal :=
  .next (s.answer do
    let m ← rcEnc ins
    return .bytes (frame 0x03 slot m.toList))

/-- MF.PARSE (R190, R191): no parse result changes the block (R192), and a malformed frame yields only the error (R195). -/
def execMfParse (frame : Bytes) (s : State) : Host.Outcome State Fault Refusal :=
  .next (s.answer do
    checkLength s.cfg frame
    return .parsed (← mfParse frame))

/-- R109: the field ids 3 to 14 in order. -/
def operatorFields : List InsField :=
  [.tremolo, .vibrato, .sustaining, .envelopeScaling, .frequencyMultiplier, .keyScale, .outputLevel, .attack, .decay,
   .sustain, .release, .waveform]

/-- R109: every field, in the order MF.DELTA visits them: FID 0, 1, 2, the modulator's, the carrier's. -/
def deltaOrder : List (InsField × OpSel) :=
  [(.drumChannel, .modulator), (.feedback, .modulator), (.frequencyModulation, .modulator)]
    ++ operatorFields.map (·, .modulator) ++ operatorFields.map (·, .carrier)

/-- R109: MF.DELTA, one MF.BUILD.PARAM for every field whose value differs. The assembler expands it, not the block. -/
def mfDelta (slot : Rat) (old new : Instrument) : List Instr :=
  (deltaOrder.filter fun fo => old.getField fo.1 fo.2 ≠ new.getField fo.1 fo.2).map fun fo =>
    .mfBuildParam slot (fo.1.fsel fo.2) (new.getField fo.1 fo.2)

end Sys2Proof.Machine
end

