-- ==== Sys2Proof/Machine/Device.lean ====
section
/-! DEFINITION. The receiving device: what each wire frame does to its register file and to the wire back to the host
(60_exceptions.md R288). The frame's reserved bytes have no effect (R89, 93 U1). -/

namespace Sys2Proof.Machine

/-- R288, 93 U6: a parameter update whose offset names no byte. The slot may change in any way and anything may be sent:
free values (log 7). -/
def State.strayUpdate (s : State) (slot : Fin 16) : State :=
  ((s.setDevSlot slot (Vector.ofFn fun k => Config.strayByte s.free k.val)).sendReplies
    (Config.strayReplies s.free)).drawFree

/-- R288: the image a device sends in reply to a Request is what it holds, or that with the unused bits cleared: which, is
a free value (93 U8, log 6). -/
def State.replyImage (s : State) (slot : Fin 16) : Image :=
  if Config.replyKeepsUnusedBits s.free then s.devSlot slot else clearUnused (s.devSlot slot)

/-- FRAME.DUMP received by the device (R288): the slot takes the image. -/
def execFrameDump (slot : Fin 16) (image : Image) (s : State) : Host.Outcome State Fault Refusal :=
  .next (s.setDevSlot slot image)

/-- FRAME.PARAM received by the device (R288): one atomic read-modify-write of the byte the offset names (R72). -/
def execFrameParam (slot : Fin 16) (triple : Triple) (s : State) : Host.Outcome State Fault Refusal :=
  .next (if triple.offset.toNat ≤ 11 then s.setDevSlot slot (applyTriple (s.devSlot slot) triple)
    else s.strayUpdate slot)

/-- FRAME.REQ received by the device (R288): it sends the host a Response frame for the slot. -/
def execFrameReq (slot : Fin 16) (s : State) : Host.Outcome State Fault Refusal :=
  .next (s.sendReplies [frameBytes 0x03 (0, 0) slot (s.replyImage slot).toList]).drawFree

/-- FRAME.RESP received by the device (R288): no effect. -/
def execFrameResp (s : State) : Host.Outcome State Fault Refusal := .next s

end Sys2Proof.Machine
end

