-- ==== Sys2Proof/Machine/Dispatch.lean ====
section
/-! DEFINITION. One arm per instruction, each one call of its meaning. -/

namespace Sys2Proof.Machine

def exec (i : Instr) (s : State) : Host.Outcome State Fault Refusal :=
  match i with
  | .bpEnc data => Sys2Proof.Machine.execBpEnc data s
  | .bpDec data => Sys2Proof.Machine.execBpDec data s
  | .rcEnc ins => Sys2Proof.Machine.execRcEnc ins s
  | .rcDec img => Sys2Proof.Machine.execRcDec img s
  | .rcTriple fsel value => Sys2Proof.Machine.execRcTriple fsel value s
  | .mfBuildDump slot ins => Sys2Proof.Machine.execMfBuildDump slot ins s
  | .mfBuildParam slot fsel value => Sys2Proof.Machine.execMfBuildParam slot fsel value s
  | .mfBuildReq slot => Sys2Proof.Machine.execMfBuildReq slot s
  | .mfBuildResp slot ins => Sys2Proof.Machine.execMfBuildResp slot ins s
  | .mfParse frame => Sys2Proof.Machine.execMfParse frame s
  | .bfParse file => Sys2Proof.Machine.execBfParse file s
  | .frameDump slot _ image => Sys2Proof.Machine.execFrameDump slot image s
  | .frameParam slot _ triple => Sys2Proof.Machine.execFrameParam slot triple s
  | .frameReq slot _ => Sys2Proof.Machine.execFrameReq slot s
  | .frameResp _ _ _ => Sys2Proof.Machine.execFrameResp s

end Sys2Proof.Machine
end

