-- ==== Sys2Proof/WellFormed.lean ====
section
/-! DEFINITION. When an instruction's operands are ones the spec gives it: instruments in range (R38), register images of
12 bytes (R40), legal field selectors and values (R85, R86), triple offsets that name a byte (R41). An ill-formed
instruction still has its meaning: the error the rules name. -/

namespace Sys2Proof

/-- R37: every integer field of an operator lies in its stated range. -/
def Operator.valid (o : Operator) : Bool :=
  decide ((0 ≤ o.keyScale ∧ o.keyScale ≤ 3) ∧ (0 ≤ o.frequencyMultiplier ∧ o.frequencyMultiplier ≤ 15)
    ∧ (0 ≤ o.outputLevel ∧ o.outputLevel ≤ 63) ∧ (0 ≤ o.attack ∧ o.attack ≤ 15) ∧ (0 ≤ o.decay ∧ o.decay ≤ 15)
    ∧ (0 ≤ o.sustain ∧ o.sustain ≤ 15) ∧ (0 ≤ o.release ∧ o.release ≤ 15) ∧ (0 ≤ o.waveform ∧ o.waveform ≤ 3))

/-- R38: an instrument is valid when every integer field of it and of both operators is in its range. -/
def Instrument.valid (ins : Instrument) : Bool :=
  decide (0 ≤ ins.drumChannel ∧ ins.drumChannel ≤ 255) && decide (0 ≤ ins.feedback ∧ ins.feedback ≤ 7)
    && ins.modulator.valid && ins.carrier.valid

/-- R84 to R86: a legal selector with a value in its field's range. -/
def legalFieldValue (fsel : Byte) (value : Int) : Bool :=
  match InsField.ofFsel fsel with
  | none => false
  | some fo => fo.1.inRange value

/-- R41: the offset of a triple is a RegisterImage index. -/
def Triple.offsetLegal (t : Triple) : Bool := decide (t.offset.toNat ≤ 11)

/-- The operands are ones the spec gives the instruction. Byte operands of BP.ENC, BP.DEC, MF.PARSE and BF.PARSE may be any
(R120, R121, R193, R231), and so may a slot (R180). -/
def Instr.wellFormed : Instr → Bool
  | .bpEnc _ => true
  | .bpDec _ => true
  | .rcEnc ins => ins.valid
  | .rcDec img => decide (img.length = 12)
  | .rcTriple fsel value => legalFieldValue fsel value
  | .mfBuildDump _ ins => ins.valid
  | .mfBuildParam _ fsel value => legalFieldValue fsel value
  | .mfBuildReq _ => true
  | .mfBuildResp _ ins => ins.valid
  | .mfParse _ => true
  | .bfParse _ => true
  | .frameDump _ _ _ => true
  | .frameParam _ _ t => t.offsetLegal
  | .frameReq _ _ => true
  | .frameResp _ _ _ => true

end Sys2Proof
end

