-- ==== Sys2Proof/Decode.lean ====
section
/-! DEFINITION. From what is presented to an instruction, and back: the request's operation code (R80, R81, R82) and the
wire frame (R87, R88, R190). -/

namespace Sys2Proof

open Machine

/-- R80, R82: the operation an `opc` selects, with the operands R82 lists for it; any other `opc` selects none and is
answered UnknownOpcode (R81). -/
def decodeRequest (r : Request) : Except ErrorInfo Instr :=
  match r.opc.toNat with
  | 0x10 => .ok (.bpEnc r.data)
  | 0x11 => .ok (.bpDec r.data)
  | 0x20 => .ok (.rcEnc r.ins)
  | 0x21 => .ok (.rcDec r.data)
  | 0x22 => .ok (.rcTriple r.fsel r.value)
  | 0x30 => .ok (.mfBuildDump r.slot r.ins)
  | 0x31 => .ok (.mfBuildParam r.slot r.fsel r.value)
  | 0x32 => .ok (.mfBuildReq r.slot)
  | 0x33 => .ok (.mfBuildResp r.slot r.ins)
  | 0x3F => .ok (.mfParse r.data)
  | 0x40 => .ok (.bfParse r.data)
  | _ => .error (.illegalRequest .unknownOpcode)

/-- R288: the device acts as if it ran MF.PARSE on the frame; what it parses is the frame instruction. The device is not
bound by the block's MAX_LEN (DEDUCED, log 12). -/
def decodeFrame (bytes : Bytes) : Except ErrorInfo Instr :=
  match mfParse bytes with
  | .error e => .error e
  | .ok (.dump slot reserved image) => .ok (.frameDump slot reserved image)
  | .ok (.paramUpdate slot reserved triple) => .ok (.frameParam slot reserved triple)
  | .ok (.request slot reserved) => .ok (.frameReq slot reserved)
  | .ok (.response slot reserved image _) => .ok (.frameResp slot reserved image)

/-- The instruction a packet holds, or the error that names why it holds none. Total on any packet. -/
def decode : Packet → Except ErrorInfo Instr
  | .request r => decodeRequest r
  | .frame bytes => decodeFrame bytes

/-- The packet of an instruction: the request record of R80 and R82, its other operands zero or empty, or the frame of R87
and R88. -/
def encode : Instr → Packet
  | .bpEnc data => .request { opc := 0x10, data := data }
  | .bpDec data => .request { opc := 0x11, data := data }
  | .rcEnc ins => .request { opc := 0x20, ins := ins }
  | .rcDec img => .request { opc := 0x21, data := img }
  | .rcTriple fsel value => .request { opc := 0x22, fsel := fsel, value := value }
  | .mfBuildDump slot ins => .request { opc := 0x30, slot := slot, ins := ins }
  | .mfBuildParam slot fsel value => .request { opc := 0x31, slot := slot, fsel := fsel, value := value }
  | .mfBuildReq slot => .request { opc := 0x32, slot := slot }
  | .mfBuildResp slot ins => .request { opc := 0x33, slot := slot, ins := ins }
  | .mfParse frame => .request { opc := 0x3F, data := frame }
  | .bfParse file => .request { opc := 0x40, data := file }
  | .frameDump slot reserved image => .frame (frameBytes 0x00 reserved slot image.toList)
  | .frameParam slot reserved triple => .frame (frameBytes 0x01 reserved slot (tripleBytes triple))
  | .frameReq slot reserved => .frame (frameBytes 0x02 reserved slot [])
  | .frameResp slot reserved image => .frame (frameBytes 0x03 reserved slot image.toList)

/-- The byte of `w` at bits `lo + 7` down to `lo`. -/
def byteAt (w lo : Nat) : Byte := BitVec.ofNat 8 (w >>> lo)

/-- The frame whose bits are `w`, as `opcode_table.json` numbers a frame row: the 24 bits of its match are SOX, VENDOR and
COMMAND, SOX the highest; later bytes count on from bit 24. The encoded payload has the length R88 gives the command, and
the buffer ends with EOX, to which the table gives no bits (DEDUCED, log 10). -/
def tableFrame (w : Nat) : Bytes :=
  [byteAt w 16, byteAt w 8, byteAt w 0, byteAt w 24, byteAt w 32, byteAt w 40]
    ++ (List.range (encodedLength (byteAt w 0))).map (fun j => byteAt w (48 + 8 * j)) ++ [eox]

/-- The packet whose bits are `w`: a row of fewer than 24 bits is a request, its `opc` and every operand zero or empty
(log 10). -/
def tablePacket (nbits w : Nat) : Packet :=
  if nbits < 24 then .request { opc := byteAt w 0 } else .frame (tableFrame w)

/-- The instruction the decoder reads from an instruction whose bits are `w`, numbered as the table numbers them. -/
def decodeTableWord (nbits w : Nat) : Option Instr :=
  match decode (tablePacket nbits w) with
  | .ok i => some i
  | .error _ => none

end Sys2Proof
end

