-- ==== Sys2Proof/Machine/Fetch.lean ====
section
/-! DEFINITION. Taking what the host presents next, and what becomes of a packet that holds no instruction. -/

namespace Sys2Proof.Machine

/-- A packet that decodes to no instruction: a request is answered with the error (R81), a malformed frame has no effect on
the device (R288). -/
def State.undecoded (s : State) (p : Packet) (e : ErrorInfo) : State :=
  match p with
  | .request _ => s.raise e
  | .frame _ => s

/-- R33: the next of what is presented, in order. With nothing presented the machine is idle (R289). A request being
performed when reset is asserted is abandoned and gets no response (R300, log 8). -/
def State.fetch (s : State) : Fetched :=
  match s.events with
  | [] => .done s
  | .resetDuring _ :: rest => .done ({ s with events := rest } : State).blockReset
  | .arrive p :: rest =>
    match decode p with
    | .ok i => .run i { s with events := rest }
    | .error e => .done (({ s with events := rest } : State).undecoded p e)

end Sys2Proof.Machine
end

