-- ==== Sys2Proof/Machine/Step.lean ====
section
/-! DEFINITION. One step: take what is presented next and perform it whole (R33, R70). -/

namespace Sys2Proof.Machine

/-- One step. -/
def step (s : State) : Host.Outcome State Fault Refusal :=
  match s.fetch with
  | .run i s' => exec i s'
  | .done s' => .next s'

/-- The state with the instruction whose bits are `w` presented first, before anything else that is presented (log 9). -/
def State.withFetchWord (s : State) (nbits w : Nat) : State :=
  { s with events := .arrive (tablePacket nbits w) :: s.events }

end Sys2Proof.Machine
end

