-- ==== Sys2Proof/Safety.lean ====
section
/-! DEFINITION. What a good run is, in the terms the statements use: which instructions are the block's, when a response is
one the rules allow, and the invariant of the machine. -/

namespace Sys2Proof

/-- R80: the instruction is an operation of the block, not a frame the device receives. -/
def Instr.isBlockOperation : Instr → Bool
  | .bpEnc _ => true
  | .bpDec _ => true
  | .rcEnc _ => true
  | .rcDec _ => true
  | .rcTriple _ _ => true
  | .mfBuildDump _ _ => true
  | .mfBuildParam _ _ _ => true
  | .mfBuildReq _ => true
  | .mfBuildResp _ _ => true
  | .mfParse _ => true
  | .bfParse _ => true
  | .frameDump _ _ _ => false
  | .frameParam _ _ _ => false
  | .frameReq _ _ => false
  | .frameResp _ _ _ => false

/-- R83: the length of a Bytes operand is within MAX_LEN. -/
def Config.accepts (cfg : Config) (data : Bytes) : Prop := ∀ n, cfg.maxLen = some n → data.length ≤ n

namespace Machine

/-- R191: a Response's instrument is the decoding of its image. -/
def ParsedFrame.wf : ParsedFrame → Prop
  | .dump _ _ _ => True
  | .paramUpdate _ _ _ => True
  | .request _ _ => True
  | .response _ _ m ins => ins = rcDec m

/-- R43, R144, R243: no two entries share a label, no entry lists more than the 128 slots of a bank, every instrument is
valid. -/
def bankWf (b : Bank) : Prop :=
  (b.map BankEntry.label).Nodup
    ∧ ∀ e ∈ b, e.instruments.length ≤ 128 ∧ ∀ p ∈ e.instruments, p.2.valid = true

/-- What the rules say of every result value: an image has its unused bits 0 (R96), an instrument is valid (R144), a triple's
offset is 0..11 and its value lies outside its mask (R97), a parsed frame and a bank as above. -/
def Value.wf : Value → Prop
  | .bytes _ => True
  | .image m => clearUnused m = m
  | .instrument ins => ins.valid = true
  | .triple t => t.offset.toNat ≤ 11 ∧ t.value &&& t.mask = 0
  | .parsed p => p.wf
  | .bank b => bankWf b

/-- What the rules say of every error: InvalidRange names a field and a value outside its range (R272); the index of
MalformedFrame and the offset of UnsupportedFileFormat are those of R273 and R274. -/
def ErrorInfo.wf : ErrorInfo → Prop
  | .invalidRange fsel v => ∃ f op, InsField.ofFsel fsel = some (f, op) ∧ f.inRange v = false
  | .malformedFrame .tooShort i => i < 7
  | .malformedFrame .badSOX i => i = 0
  | .malformedFrame .badVendor i => i = 1
  | .malformedFrame .badEOX i => 6 ≤ i
  | .malformedFrame .unknownCommand i => i = 2
  | .malformedFrame .badSlot i => i = 5
  | .malformedFrame .payloadHighBit i => 6 ≤ i
  | .malformedFrame .payloadLength _ => True
  | .unsupportedFileFormat .badMagic o => o = 0
  | .unsupportedFileFormat .truncated o => 19 ≤ o
  | .illegalRequest _ => True

/-- A response the rules allow. -/
def Response.wf : Response → Prop
  | .ok v => v.wf
  | .err e => e.wf

/-- The invariant of the machine: every response on the response port is one the rules allow. -/
def State.Inv (s : State) : Prop := ∀ r ∈ s.responses, r.wf

/-- A safe outcome: the machine goes on (R281). -/
def Safe (o : Host.Outcome State Fault Refusal) : Prop := ∃ s', o = .next s'

/-- R236: the bytes are the ASCII decimal digits of `i` with no leading zero: at least one byte, each 0x30..0x39, read as
decimal they are `i`, and a first byte 0x30 is the only one. -/
def isDecimalOf (i : Nat) (b : Bytes) : Prop :=
  b ≠ [] ∧ (∀ d ∈ b, 0x30 ≤ d.toNat ∧ d.toNat ≤ 0x39)
    ∧ b.foldl (fun n d => 10 * n + (d.toNat - 0x30)) 0 = i ∧ (b.head? = some 0x30 → b = [0x30])

/-- R109: what an MF.BUILD.PARAM request does to an image once its triple is applied there; any other instruction, and a
request that is refused, leaves it. -/
def afterParam (m : Image) : Instr → Image
  | .mfBuildParam _ fsel value =>
    match rcTriple fsel value with
    | .ok t => applyTriple m t
    | .error _ => m
  | _ => m

end Machine

end Sys2Proof
end

