-- ==== Sys2Proof/Certificates/Slice0/Obligations.lean ====
section
/-! DEFINITION. The statements, from the numbered rules of spec/. A next state written `s with responses := s.responses ++ [r]`
says the whole frame: the response port gains `r`, and the configuration, what is presented, the device's register file,
its wire and the model's counter are as before. -/

open Sys2Proof Sys2Proof.Machine

/-! ### Reset, the ports, the order of requests -/

/-- R47: after reset no response is pending, and each byte of the device's register file is the unconstrained DEV_RESET, here
a constant without a body (log 5). That nothing is presented and that the reply wire is empty right after reset is the model's
choice (DESIGN CHOICE, log 9), not R47's words. -/
def Obligations.ResetLeavesPortsEmpty : Prop :=
  State.reset.events = [] ∧ State.reset.responses = [] ∧ State.reset.replies = []
    ∧ ∀ (k : Fin 16) (j : Fin 12), (State.reset.devSlot k)[j.val] = Config.devReset k.val j.val

/-- R300, R301: reset asserted during a request abandons it without a response and leaves no response pending; the
configuration and the device are unchanged. (That responses not yet taken are cleared is the model's reading, log 8.) -/
def Obligations.ResetAbandonsTheRequest : Prop :=
  ∀ (s : State) (r : Option Request) (rest : List Event), s.events = .resetDuring r :: rest →
    step s = .next { s with events := rest, responses := [] }

/-- R289, R301: with nothing presented the machine is idle. -/
def Obligations.IdleMachineHoldsNothingNew : Prop :=
  ∀ s : State, s.events = [] → step s = .next s

/-- R33, R288: when what is presented first decodes to an instruction, a step takes it from the port and runs it. -/
def Obligations.StepRunsTheDecodedInstruction : Prop :=
  ∀ (s : State) (p : Packet) (rest : List Event) (i : Instr), s.events = .arrive p :: rest → decode p = .ok i →
    step s = exec i { s with events := rest }

/-- R281, R34: every request, legal or not, gets exactly one response, and nothing else changes. -/
def Obligations.EveryRequestGetsOneResponse : Prop :=
  ∀ (s : State) (r : Request) (rest : List Event), s.events = .arrive (.request r) :: rest →
    ∃ resp, step s = .next { s with events := rest, responses := s.responses ++ [resp] }

/-- R30: an operation's response is a function of the request (and the configuration) alone, and it leaves no state. -/
def Obligations.ResponseDependsOnRequestAlone : Prop :=
  ∀ i : Instr, i.isBlockOperation = true → ∀ s t : State, s.cfg = t.cfg →
    ∃ resp, exec i s = .next { s with responses := s.responses ++ [resp] }
      ∧ exec i t = .next { t with responses := t.responses ++ [resp] }

/-- R70: a run over a list of requests gives one response each, in request order, each the response the request would get
alone. -/
def Obligations.ResponsesComeOutInRequestOrder : Prop :=
  ∀ (rs : List Request) (s : State) (rest : List Event), s.events = rs.map (fun r => .arrive (.request r)) ++ rest →
    ∃ resps : List Response, resps.length = rs.length
      ∧ Sys2Proof.core.run rs.length s = .next { s with events := rest, responses := s.responses ++ resps }
      ∧ ∀ (k : Nat) (r : Request) (resp : Response), rs[k]? = some r → resps[k]? = some resp →
          step { s with events := [.arrive (.request r)], responses := [] }
            = .next { s with events := [], responses := [resp] }

/-- R302: no step changes the configuration. -/
def Obligations.ConfigurationStaysFixed : Prop :=
  ∀ s s' : State, step s = .next s' → s'.cfg = s.cfg

/-- The invariant (Safety.lean): every response on the port is one the rules allow: images with unused bits 0 (R96), valid
instruments (R144), triples of the form R97 gives, a Response's instrument the decoding of its image (R191), banks with
distinct labels (R43), InvalidRange naming a value out of range (R272), indices as in R273 and R274. Every step keeps it. -/
def Obligations.EveryStepKeepsResponsesLawful : Prop :=
  ∀ s s' : State, s.Inv → step s = .next s' → s'.Inv

/-- The invariant holds after reset. -/
def Obligations.ResponsesAreLawfulAtReset : Prop := State.reset.Inv

/-- R271, R36: STATUS of a response, 0 for Ok and the kind's code for Err. -/
def Obligations.StatusIsTheKindsCode : Prop :=
  (∀ v, (Response.ok v).status = 0x00)
    ∧ (∀ fsel v, (Response.err (.invalidRange fsel v)).status = 0x01)
    ∧ (∀ r i, (Response.err (.malformedFrame r i)).status = 0x02)
    ∧ (∀ r o, (Response.err (.unsupportedFileFormat r o)).status = 0x03)
    ∧ ∀ r, (Response.err (.illegalRequest r)).status = 0x04

/-- R273, R274, R275: the reason code each info record carries; InvalidRange's record (R272) has none. -/
def Obligations.ReasonCodesFollowTheTables : Prop :=
  (∀ i, [MalformedReason.tooShort, .badSOX, .badVendor, .badEOX, .unknownCommand, .badSlot, .payloadHighBit,
      .payloadLength].map (fun r => (ErrorInfo.malformedFrame r i).reasonCode)
        = [some 1, some 2, some 3, some 4, some 5, some 6, some 7, some 8])
    ∧ (∀ o, [FileReason.badMagic, .truncated].map (fun r => (ErrorInfo.unsupportedFileFormat r o).reasonCode)
        = [some 1, some 2])
    ∧ [RequestReason.unknownOpcode, .badFieldSelector, .badImageLength, .tooLong].map
        (fun r => (ErrorInfo.illegalRequest r).reasonCode) = [some 1, some 2, some 3, some 4]
    ∧ ∀ fsel v, (ErrorInfo.invalidRange fsel v).reasonCode = none

/-! ### Encodings -/

/-- R80, R82, R87, R88: decoding the encoding of an instruction gives it back, for every instruction and every operand. -/
def Obligations.DecodeOfEncodeIsTheInstruction : Prop := ∀ i : Instr, decode (encode i) = .ok i

/-- R80, R87, R88: a few words written out from the spec's encodings decode to the instructions they stand for. -/
def Obligations.SpecWordsDecode : Prop :=
  decode (.request { opc := 0x10, data := [0x80] }) = .ok (.bpEnc [0x80])
    ∧ decode (.request { opc := 0x22, fsel := 0x1A, value := 12 }) = .ok (.rcTriple 0x1A 12)
    ∧ decode (.request { opc := 0x32, slot := 3 }) = .ok (.mfBuildReq 3)
    ∧ decode (.request { opc := 0x40, data := [0x57] }) = .ok (.bfParse [0x57])
    ∧ decode (.frame [0xF0, 0x7D, 0x02, 0x12, 0x34, 0x01, 0xF7]) = .ok (.frameReq 1 (0x12, 0x34))
    ∧ decode (.frame [0xF0, 0x7D, 0x01, 0x00, 0x00, 0x01, 0x10, 0x03, 0x0F, 0x40, 0xF7])
        = .ok (.frameParam 1 (0, 0) ⟨3, 0x0F, 0xC0⟩)

/-- R80, R82: the operation each of the eleven codes selects, with its operands taken from the request's. The request is any
record: the operands R82 does not list for an operation have no part in what is decoded (that they can be presented at all,
and are ignored, is the model's choice, log 2). -/
def Obligations.OpcodeSelectsOperationAndOperands : Prop :=
  ∀ r : Request,
    (r.opc = 0x10 → decode (.request r) = .ok (.bpEnc r.data))
      ∧ (r.opc = 0x11 → decode (.request r) = .ok (.bpDec r.data))
      ∧ (r.opc = 0x20 → decode (.request r) = .ok (.rcEnc r.ins))
      ∧ (r.opc = 0x21 → decode (.request r) = .ok (.rcDec r.data))
      ∧ (r.opc = 0x22 → decode (.request r) = .ok (.rcTriple r.fsel r.value))
      ∧ (r.opc = 0x30 → decode (.request r) = .ok (.mfBuildDump r.slot r.ins))
      ∧ (r.opc = 0x31 → decode (.request r) = .ok (.mfBuildParam r.slot r.fsel r.value))
      ∧ (r.opc = 0x32 → decode (.request r) = .ok (.mfBuildReq r.slot))
      ∧ (r.opc = 0x33 → decode (.request r) = .ok (.mfBuildResp r.slot r.ins))
      ∧ (r.opc = 0x3F → decode (.request r) = .ok (.mfParse r.data))
      ∧ (r.opc = 0x40 → decode (.request r) = .ok (.bfParse r.data))

/-- R81: an operation code not in the table of R80 is answered UnknownOpcode, and nothing else happens. -/
def Obligations.UnknownOpcodeIsAnswered : Prop :=
  ∀ (s : State) (r : Request) (rest : List Event), s.events = .arrive (.request r) :: rest →
    r.opc ∉ ([0x10, 0x11, 0x20, 0x21, 0x22, 0x30, 0x31, 0x32, 0x33, 0x3F, 0x40] : List Byte) →
    step s = .next { s with
      events := rest, responses := s.responses ++ [.err (.illegalRequest .unknownOpcode)] }

/-- R83: a Bytes operand longer than MAX_LEN is refused with TooLong whatever it holds; one that MAX_LEN accepts (any, when
there is no MAX_LEN) gets a response that is not TooLong. -/
def Obligations.OverlongOperandIsRefused : Prop :=
  (∀ (s : State) (data : Bytes) (n : Nat), s.cfg.maxLen = some n → n < data.length →
    ∀ i ∈ ([.bpEnc data, .bpDec data, .rcDec data, .mfParse data, .bfParse data] : List Instr),
      exec i s = .next { s with responses := s.responses ++ [.err (.illegalRequest .tooLong)] })
  ∧ ∀ (s : State) (data : Bytes), (∀ n, s.cfg.maxLen = some n → data.length ≤ n) →
    ∀ i ∈ ([.bpEnc data, .bpDec data, .rcDec data, .mfParse data, .bfParse data] : List Instr),
      ∃ resp, exec i s = .next { s with responses := s.responses ++ [resp] }
        ∧ resp ≠ .err (.illegalRequest .tooLong)

/-! ### BitPacker -/

/-- R93, R123: BP.ENC on `n` bytes completes with `n + ceil(n/7)` bytes. Byte `8g` is the header of group `g`: bit 7 is 0, bit
`6 - i` is bit 7 of input byte `7g + i`, 0 where there is none. The byte after it for input byte `j` holds its low 7 bits. -/
def Obligations.BpEncWritesHeadersAndBodies : Prop :=
  ∀ (s : State) (data : Bytes), s.cfg.accepts data →
    ∃ y : Bytes, exec (.bpEnc data) s = .next { s with responses := s.responses ++ [.ok (.bytes y)] }
      ∧ y.length = data.length + (data.length + 6) / 7
      ∧ (∀ g, 7 * g < data.length → ∃ h, y[8 * g]? = some h ∧ h.getLsbD 7 = false
          ∧ ∀ i, i < 7 → h.getLsbD (6 - i) = ((data[7 * g + i]?).map fun b => b.getLsbD 7).getD false)
      ∧ ∀ j b, data[j]? = some b → y[8 * (j / 7) + 1 + j % 7]? = some (b &&& 0x7F)

/-- R121, R124: BP.DEC on any `m` bytes completes with `m - ceil(m/8)` bytes. Body byte `j` of group `g` yields byte `7g + j`,
the body byte with bit `6 - j` of the group's header ORed into bit 7. -/
def Obligations.BpDecRebuildsEveryBodyByte : Prop :=
  ∀ (s : State) (data : Bytes), s.cfg.accepts data →
    ∃ y : Bytes, exec (.bpDec data) s = .next { s with responses := s.responses ++ [.ok (.bytes y)] }
      ∧ y.length = data.length - (data.length + 7) / 8
      ∧ ∀ g j h b, j < 7 → data[8 * g]? = some h → data[8 * g + 1 + j]? = some b →
          y[7 * g + j]? = some (if h.getLsbD (6 - j) then b ||| 0x80 else b)

/-- R122: every byte BP.ENC returns has bit 7 clear. -/
def Obligations.BpEncIsSevenBitSafe : Prop := ∀ x : Bytes, ∀ b ∈ bpEnc x, b.getLsbD 7 = false

/-- R125: BP.DEC inverts BP.ENC on every byte sequence. -/
def Obligations.BpDecInvertsBpEnc : Prop := ∀ x : Bytes, bpDec (bpEnc x) = x

/-- R126: the three conditions are exactly those of an output of BP.ENC, and exactly those under which BP.ENC gives back what
BP.DEC decoded. -/
def Obligations.CanonicalEncodingsAreCharacterised : Prop :=
  ∀ y : Bytes,
    let canonical := y.length % 8 ≠ 1 ∧ (∀ b ∈ y, b.getLsbD 7 = false)
      ∧ ∀ k, 1 ≤ k → y.length % 8 = k + 1 → ∀ h, y[8 * (y.length / 8)]? = some h →
          ∀ t, t + k ≤ 6 → h.getLsbD t = false
    ((∃ x, y = bpEnc x) ↔ canonical) ∧ (bpEnc (bpDec y) = y ↔ canonical)

/-- R127: bit 7 of a header, and in a short last group the header bits of absent body bytes, are never read: two headers that
agree on the bits of the bytes present give the same decoding. -/
def Obligations.BpDecIgnoresUnreadHeaderBits : Prop :=
  ∀ (before body after : Bytes) (h h' : Byte), before.length % 8 = 0 → body.length ≤ 7 →
    (body.length = 7 ∨ after = []) → (∀ j, j < body.length → h.getLsbD (6 - j) = h'.getLsbD (6 - j)) →
    bpDec (before ++ h :: body ++ after) = bpDec (before ++ h' :: body ++ after)

/-- R128: groups are independent and cut at fixed positions. -/
def Obligations.BitPackerRespectsConcatenation : Prop :=
  (∀ a c : Bytes, a.length % 7 = 0 → bpEnc (a ++ c) = bpEnc a ++ bpEnc c)
    ∧ ∀ y z : Bytes, y.length % 8 = 0 → bpDec (y ++ z) = bpDec y ++ bpDec z

/-! ### RegisterCodec -/

/-- R140: an instrument out of range is refused by RC.ENC, MF.BUILD.DUMP and MF.BUILD.RESP with the first field out of range in
the rule's order, which is written here by selectors, and that field's value. -/
def Obligations.FirstFieldOutOfRangeIsReported : Prop :=
  ∀ (s : State) (ins : Instrument) (q : Rat), ins.valid = false →
    ∃ (before after : List Byte) (fsel : Byte) (f : InsField) (op : OpSel),
      ([0x00, 0x01, 0x07, 0x08, 0x09, 0x0A, 0x0B, 0x0C, 0x0D, 0x0E,
        0x17, 0x18, 0x19, 0x1A, 0x1B, 0x1C, 0x1D, 0x1E] : List Byte) = before ++ fsel :: after
      ∧ InsField.ofFsel fsel = some (f, op) ∧ f.inRange (ins.getField f op) = false
      ∧ (∀ x ∈ before, ∀ g p, InsField.ofFsel x = some (g, p) → g.inRange (ins.getField g p) = true)
      ∧ ∀ i ∈ ([.rcEnc ins, .mfBuildDump q ins, .mfBuildResp q ins] : List Instr),
          exec i s = .next { s with
            responses := s.responses ++ [.err (.invalidRange fsel (ins.getField f op))] }

/-- R95, R96: RC.ENC of a valid instrument completes with the image of the layout table: every byte written out as the sum
of its fields, each at its low bit and in its polarity, so that the bits no field occupies are 0. -/
def Obligations.RcEncPlacesEveryField : Prop :=
  ∀ (s : State) (ins : Instrument), ins.valid = true →
    ∃ m : Image, exec (.rcEnc ins) s = .next { s with responses := s.responses ++ [.ok (.image m)] }
      ∧ let u := fun k : Fin 12 => (m[k.val].toNat : Int)
        let bit := fun b : Bool => if b then (1 : Int) else 0
        let holds := fun (o : Operator) (b0 b1 b2 b3 b4 : Fin 12) =>
          u b0 = 128 * bit o.tremolo + 64 * bit o.vibrato + 32 * bit o.sustaining + 16 * bit o.envelopeScaling
              + o.frequencyMultiplier
            ∧ u b1 = 64 * o.keyScale + (63 - o.outputLevel)
            ∧ u b2 = 16 * o.attack + o.decay
            ∧ u b3 = 16 * (15 - o.sustain) + o.release
            ∧ u b4 = o.waveform
        u 0 = ins.drumChannel ∧ u 6 = 2 * ins.feedback + bit (!ins.frequencyModulation)
          ∧ holds ins.modulator 1 2 3 4 5 ∧ holds ins.carrier 7 8 9 10 11

/-- R143, R144, R96, R40: RC.DEC of 12 bytes completes with a valid instrument, each field taken from its bits of its byte; of
any other length it is answered BadImageLength. -/
def Obligations.RcDecExtractsEveryField : Prop :=
  ∀ (s : State) (img : Bytes), s.cfg.accepts img →
    (img.length = 12 →
      ∃ ins : Instrument, exec (.rcDec img) s = .next { s with responses := s.responses ++ [.ok (.instrument ins)] }
        ∧ ins.valid = true
        ∧ let u := fun k : Nat => (img.getD k 0).toNat
          let reads := fun (o : Operator) (base : Nat) =>
            o.tremolo = decide (128 ≤ u base) ∧ o.vibrato = decide (u base / 64 % 2 = 1)
              ∧ o.sustaining = decide (u base / 32 % 2 = 1) ∧ o.envelopeScaling = decide (u base / 16 % 2 = 1)
              ∧ o.frequencyMultiplier = (u base % 16 : Nat)
              ∧ o.keyScale = (u (base + 1) / 64 : Nat) ∧ o.outputLevel = 63 - (u (base + 1) % 64 : Nat)
              ∧ o.attack = (u (base + 2) / 16 : Nat) ∧ o.decay = (u (base + 2) % 16 : Nat)
              ∧ o.sustain = 15 - (u (base + 3) / 16 : Nat) ∧ o.release = (u (base + 3) % 16 : Nat)
              ∧ o.waveform = (u (base + 4) % 4 : Nat)
          ins.drumChannel = (u 0 : Nat) ∧ ins.feedback = (u 6 / 2 % 8 : Nat)
            ∧ ins.frequencyModulation = decide (u 6 % 2 = 0) ∧ reads ins.modulator 1 ∧ reads ins.carrier 7)
    ∧ (img.length ≠ 12 →
      exec (.rcDec img) s = .next { s with
        responses := s.responses ++ [.err (.illegalRequest .badImageLength)] })

/-- R145: RC.DEC inverts RC.ENC on every valid instrument. -/
def Obligations.RcDecInvertsRcEnc : Prop :=
  ∀ ins : Instrument, ins.valid = true → ∃ m, rcEnc ins = .ok m ∧ rcDec m = ins

/-- R146: the other direction clears the unused bits, so it is the identity exactly on images where they are 0. -/
def Obligations.RcEncOfDecodeClearsUnusedBits : Prop :=
  ∀ m : Image, rcEnc (rcDec m) = .ok (clearUnused m)
    ∧ (rcEnc (rcDec m) = .ok m ↔ (m[5] &&& 0xFC = 0 ∧ m[11] &&& 0xFC = 0 ∧ m[6] &&& 0xF0 = 0))

/-- R147: RC.TRIPLE field by field, the table of the rule written out by selector (offset, mask, largest value, value byte).
A selector not in the table is answered BadFieldSelector whatever the value; a value out of range, InvalidRange. -/
def Obligations.RcTripleFollowsTheTable : Prop :=
  let rows : List (Byte × Byte × Byte × Int × (Int → Int)) :=
    [(0x00, 0, 0x00, 255, fun v => v), (0x01, 6, 0xF1, 7, fun v => v * 2),
     (0x02, 6, 0xFE, 1, fun v => if v = 1 then 0 else 1),
     (0x03, 1, 0x7F, 1, fun v => v * 128), (0x13, 7, 0x7F, 1, fun v => v * 128),
     (0x04, 1, 0xBF, 1, fun v => v * 64), (0x14, 7, 0xBF, 1, fun v => v * 64),
     (0x05, 1, 0xDF, 1, fun v => v * 32), (0x15, 7, 0xDF, 1, fun v => v * 32),
     (0x06, 1, 0xEF, 1, fun v => v * 16), (0x16, 7, 0xEF, 1, fun v => v * 16),
     (0x07, 1, 0xF0, 15, fun v => v), (0x17, 7, 0xF0, 15, fun v => v),
     (0x08, 2, 0x3F, 3, fun v => v * 64), (0x18, 8, 0x3F, 3, fun v => v * 64),
     (0x09, 2, 0xC0, 63, fun v => 63 - v), (0x19, 8, 0xC0, 63, fun v => 63 - v),
     (0x0A, 3, 0x0F, 15, fun v => v * 16), (0x1A, 9, 0x0F, 15, fun v => v * 16),
     (0x0B, 3, 0xF0, 15, fun v => v), (0x1B, 9, 0xF0, 15, fun v => v),
     (0x0C, 4, 0x0F, 15, fun v => (15 - v) * 16), (0x1C, 10, 0x0F, 15, fun v => (15 - v) * 16),
     (0x0D, 4, 0xF0, 15, fun v => v), (0x1D, 10, 0xF0, 15, fun v => v),
     (0x0E, 5, 0xFC, 3, fun v => v), (0x1E, 11, 0xFC, 3, fun v => v)]
  ∀ (s : State) (v : Int),
    (∀ row ∈ rows, 0 ≤ v → v ≤ row.2.2.2.1 →
      exec (.rcTriple row.1 v) s = .next { s with
        responses := s.responses ++ [.ok (.triple ⟨row.2.1, row.2.2.1, BitVec.ofInt 8 (row.2.2.2.2 v)⟩)] })
    ∧ (∀ row ∈ rows, v < 0 ∨ row.2.2.2.1 < v →
      exec (.rcTriple row.1 v) s = .next { s with responses := s.responses ++ [.err (.invalidRange row.1 v)] })
    ∧ ∀ fsel : Byte, fsel ∉ rows.map (·.1) →
      exec (.rcTriple fsel v) s = .next { s with
        responses := s.responses ++ [.err (.illegalRequest .badFieldSelector)] }

/-- R86: the illegal field selectors, answered BadFieldSelector by RC.TRIPLE and MF.BUILD.PARAM whatever the value. -/
def Obligations.IllegalSelectorIsRefused : Prop :=
  ∀ (s : State) (q : Rat) (fsel : Byte) (v : Int),
    fsel >>> 5 ≠ 0 ∨ fsel &&& 0x0F = 0x0F ∨ ((fsel &&& 0x0F).toNat ≤ 2 ∧ fsel &&& 0x10 ≠ 0) →
    ∀ i ∈ ([.rcTriple fsel v, .mfBuildParam q fsel v] : List Instr),
      exec i s = .next { s with responses := s.responses ++ [.err (.illegalRequest .badFieldSelector)] }

/-- R148: for a valid baseline, the triple's update of the target byte gives that byte of the changed instrument's image, and
the other bytes of the two images agree. -/
def Obligations.TripleMatchesEncodeOfChangedInstrument : Prop :=
  ∀ (b : Instrument) (fsel : Byte) (v : Int) (f : InsField) (op : OpSel), b.valid = true →
    InsField.ofFsel fsel = some (f, op) → f.inRange v = true →
    ∃ (m m' : Image) (t : Triple) (o : Fin 12),
      rcEnc b = .ok m ∧ rcEnc (b.setField f op v) = .ok m' ∧ rcTriple fsel v = .ok t ∧ t.offset.toNat = o.val
      ∧ (m[o.val] &&& t.mask) ||| t.value = m'[o.val] ∧ ∀ k : Fin 12, k ≠ o → m'[k.val] = m[k.val]

/-- R149: on any image, the triple's update sets the field and keeps every bit outside the field's mask. -/
def Obligations.TripleSetsItsFieldOnAnyImage : Prop :=
  ∀ (m : Image) (fsel : Byte) (v : Int) (f : InsField) (op : OpSel),
    InsField.ofFsel fsel = some (f, op) → f.inRange v = true →
    ∃ t : Triple, rcTriple fsel v = .ok t
      ∧ rcDec (applyTriple m t) = (rcDec m).setField f op v
      ∧ ∀ k : Fin 12, (applyTriple m t)[k.val] &&& ~~~(if k.val = f.offset op then f.fmask else 0)
          = m[k.val] &&& ~~~(if k.val = f.offset op then f.fmask else 0)

/-- R150: triples for different fields commute; of two for the same field the later wins, so two with different values do not
commute. -/
def Obligations.TriplesOfDifferentFieldsCommute : Prop :=
  ∀ (m : Image) (fsel fsel' : Byte) (v v' : Int) (t t' : Triple),
    rcTriple fsel v = .ok t → rcTriple fsel' v' = .ok t' →
    (fsel ≠ fsel' → applyTriple (applyTriple m t) t' = applyTriple (applyTriple m t') t)
      ∧ (fsel = fsel' → applyTriple (applyTriple m t) t' = applyTriple m t')
      ∧ (fsel = fsel' → v ≠ v' → applyTriple (applyTriple m t) t' ≠ applyTriple (applyTriple m t') t)

/-! ### MessageFramer -/

/-- R105: the slot operand is rounded to the nearest integer, a tie going up, and clamped to 0..15. -/
def Obligations.SlotIsRoundedAndClamped : Prop :=
  ∀ q : Rat, ((slotOf q).val : Int) = min 15 (max 0 ⌊q + 1 / 2⌋)

/-- R180, R181, R184: MF.BUILD.DUMP and MF.BUILD.RESP of a valid instrument complete with the 21-byte frame of RC.ENC's image; of
any other they answer RC.ENC's error and build nothing. -/
def Obligations.BuildOfInstrumentFrames : Prop :=
  ∀ (s : State) (q : Rat) (ins : Instrument),
    (ins.valid = true → ∃ m : Image, rcEnc ins = .ok m
      ∧ (∀ c ∈ ([0x00, 0x03] : List Byte),
          ([0xF0, 0x7D, c, 0x00, 0x00, BitVec.ofNat 8 (slotOf q).val] ++ bpEnc m.toList ++ [0xF7]).length = 21)
      ∧ exec (.mfBuildDump q ins) s = .next { s with responses := s.responses ++
          [.ok (.bytes ([0xF0, 0x7D, 0x00, 0x00, 0x00, BitVec.ofNat 8 (slotOf q).val] ++ bpEnc m.toList ++ [0xF7]))] }
      ∧ exec (.mfBuildResp q ins) s = .next { s with responses := s.responses ++
          [.ok (.bytes ([0xF0, 0x7D, 0x03, 0x00, 0x00, BitVec.ofNat 8 (slotOf q).val] ++ bpEnc m.toList ++ [0xF7]))] })
    ∧ (ins.valid = false → ∃ fsel v, rcEnc ins = .error (.invalidRange fsel v)
      ∧ ∀ i ∈ ([.mfBuildDump q ins, .mfBuildResp q ins] : List Instr),
          exec i s = .next { s with responses := s.responses ++ [.err (.invalidRange fsel v)] })

/-- R182: MF.BUILD.PARAM of a legal selector and value completes with the 11-byte frame of RC.TRIPLE's triple; otherwise it
answers RC.TRIPLE's error. -/
def Obligations.BuildOfParameterFrames : Prop :=
  ∀ (s : State) (q : Rat) (fsel : Byte) (v : Int),
    (legalFieldValue fsel v = true → ∃ t : Triple, rcTriple fsel v = .ok t
      ∧ ([0xF0, 0x7D, 0x01, 0x00, 0x00, BitVec.ofNat 8 (slotOf q).val]
          ++ bpEnc [t.offset, t.mask, t.value] ++ [0xF7]).length = 11
      ∧ exec (.mfBuildParam q fsel v) s = .next { s with responses := s.responses ++
          [.ok (.bytes ([0xF0, 0x7D, 0x01, 0x00, 0x00, BitVec.ofNat 8 (slotOf q).val]
            ++ bpEnc [t.offset, t.mask, t.value] ++ [0xF7]))] })
    ∧ (legalFieldValue fsel v = false → ∃ e, rcTriple fsel v = .error e
      ∧ (e = .illegalRequest .badFieldSelector ∨ e = .invalidRange fsel v)
      ∧ exec (.mfBuildParam q fsel v) s = .next { s with responses := s.responses ++ [.err e] })

/-- R183: MF.BUILD.REQ completes with the seven bytes of a Request frame, for every slot operand. -/
def Obligations.BuildOfRequestFrames : Prop :=
  ∀ (s : State) (q : Rat),
    exec (.mfBuildReq q) s = .next { s with responses := s.responses ++
      [.ok (.bytes [0xF0, 0x7D, 0x02, 0x00, 0x00, BitVec.ofNat 8 (slotOf q).val, 0xF7])] }

/-- R185: in a built frame, SOX and EOX are the only bytes with bit 7 set. -/
def Obligations.OnlyFrameEndsHaveTheHighBit : Prop :=
  ∀ (cmd : Byte) (q : Rat) (payload : Bytes), cmd.toNat ≤ 3 →
    let f := frame cmd q payload
    f[0]? = some 0xF0 ∧ f[1]? = some 0x7D ∧ f[2]? = some cmd ∧ f[3]? = some 0x00 ∧ f[4]? = some 0x00
      ∧ (∃ b : Byte, f[5]? = some b ∧ b.toNat ≤ 15) ∧ f.getLast? = some 0xF7
      ∧ ∀ k b, 1 ≤ k → k + 2 ≤ f.length → f[k]? = some b → b.getLsbD 7 = false

/-- R190, R191: MF.PARSE reports the first check that fails, in the rule's order, and otherwise completes with the result its
command fixes, over the decoded payload. -/
def Obligations.ParseReportsFirstFailingCheck : Prop :=
  ∀ (s : State) (fr : Bytes), s.cfg.accepts fr →
    let n := fr.length
    let byte := fun k => fr.getD k 0
    let enc := (fr.drop 6).take (n - 7)
    let answers := fun r : Response => exec (.mfParse fr) s = .next { s with responses := s.responses ++ [r] }
    if n < 7 then answers (.err (.malformedFrame .tooShort n))
    else if byte 0 ≠ 0xF0 then answers (.err (.malformedFrame .badSOX 0))
    else if byte 1 ≠ 0x7D then answers (.err (.malformedFrame .badVendor 1))
    else if byte (n - 1) ≠ 0xF7 then answers (.err (.malformedFrame .badEOX (n - 1)))
    else if 0x03 < (byte 2).toNat then answers (.err (.malformedFrame .unknownCommand 2))
    else if 0x0F < (byte 5).toNat then answers (.err (.malformedFrame .badSlot 5))
    else if ∃ b ∈ enc, b.getLsbD 7 = true then
      ∃ j b, enc[j]? = some b ∧ b.getLsbD 7 = true ∧ (∀ k c, k < j → enc[k]? = some c → c.getLsbD 7 = false)
        ∧ answers (.err (.malformedFrame .payloadHighBit (6 + j)))
    else if enc.length ≠ [14, 4, 0, 14].getD (byte 2).toNat 0 then
      answers (.err (.malformedFrame .payloadLength enc.length))
    else
      ∃ slot : Fin 16, slot.val = (byte 5).toNat
        ∧ (byte 2 = 0x00 → ∃ m : Image, m.toList = bpDec enc
            ∧ answers (.ok (.parsed (.dump slot (byte 3, byte 4) m))))
        ∧ (byte 2 = 0x01 → ∃ t : Triple, [t.offset, t.mask, t.value] = bpDec enc
            ∧ answers (.ok (.parsed (.paramUpdate slot (byte 3, byte 4) t))))
        ∧ (byte 2 = 0x02 → answers (.ok (.parsed (.request slot (byte 3, byte 4)))))
        ∧ (byte 2 = 0x03 → ∃ m : Image, m.toList = bpDec enc
            ∧ answers (.ok (.parsed (.response slot (byte 3, byte 4) m (rcDec m)))))

/-- R193: MF.PARSE is total: on every byte sequence it returns a ParsedFrame or a MalformedFrame error. -/
def Obligations.ParseIsTotal : Prop :=
  ∀ (s : State) (fr : Bytes), s.cfg.accepts fr →
    (∃ p, exec (.mfParse fr) s = .next { s with responses := s.responses ++ [.ok (.parsed p)] })
      ∨ ∃ r i, exec (.mfParse fr) s = .next { s with responses := s.responses ++ [.err (.malformedFrame r i)] }

/-- R194: each build of legal operands completes, and MF.PARSE of the frame it returns yields the slot, zero reserved bytes,
and what was put in. -/
def Obligations.ParseInvertsEveryBuild : Prop :=
  ∀ (s : State) (q : Rat),
    let builds := fun (i : Instr) (p : ParsedFrame) => ∃ fr : Bytes,
      exec i s = .next { s with responses := s.responses ++ [.ok (.bytes fr)] } ∧ mfParse fr = .ok p
    (∀ ins : Instrument, ins.valid = true → ∃ m, rcEnc ins = .ok m
      ∧ builds (.mfBuildResp q ins) (.response (slotOf q) (0, 0) m ins)
      ∧ builds (.mfBuildDump q ins) (.dump (slotOf q) (0, 0) m))
    ∧ builds (.mfBuildReq q) (.request (slotOf q) (0, 0))
    ∧ ∀ (fsel : Byte) (v : Int), legalFieldValue fsel v = true → ∃ t : Triple, rcTriple fsel v = .ok t
        ∧ builds (.mfBuildParam q fsel v) (.paramUpdate (slotOf q) (0, 0) t)

/-- R109: MF.DELTA is one MF.BUILD.PARAM for its slot, with the new value, for every field whose value differs, in the order
written out here by selector, and nothing when no field differs. Between valid instruments its requests are well formed, and
their triples, applied in order to the old instrument's image, give the new one's. -/
def Obligations.DeltaReachesTheNewInstrument : Prop :=
  let operatorFields : Byte → (Instrument → Operator) → List (Byte × (Instrument → Int)) := fun opsel op =>
    [(opsel + 3, fun i => (op i).tremolo.toInt), (opsel + 4, fun i => (op i).vibrato.toInt),
     (opsel + 5, fun i => (op i).sustaining.toInt), (opsel + 6, fun i => (op i).envelopeScaling.toInt),
     (opsel + 7, fun i => (op i).frequencyMultiplier), (opsel + 8, fun i => (op i).keyScale),
     (opsel + 9, fun i => (op i).outputLevel), (opsel + 10, fun i => (op i).attack), (opsel + 11, fun i => (op i).decay),
     (opsel + 12, fun i => (op i).sustain), (opsel + 13, fun i => (op i).release), (opsel + 14, fun i => (op i).waveform)]
  let fields : List (Byte × (Instrument → Int)) :=
    [(0x00, fun i => i.drumChannel), (0x01, fun i => i.feedback), (0x02, fun i => i.frequencyModulation.toInt)]
      ++ operatorFields 0x00 (fun i => i.modulator) ++ operatorFields 0x10 (fun i => i.carrier)
  ∀ (q : Rat) (old new : Instrument),
    mfDelta q old new
        = (fields.filter fun f => f.2 old ≠ f.2 new).map (fun f => .mfBuildParam q f.1 (f.2 new))
      ∧ ((∀ f ∈ fields, f.2 old = f.2 new) → mfDelta q old new = [])
      ∧ (old.valid = true → new.valid = true →
        ∃ m m' : Image, rcEnc old = .ok m ∧ rcEnc new = .ok m'
          ∧ (∀ i ∈ mfDelta q old new, i.wellFormed = true)
          ∧ (mfDelta q old new).foldl afterParam m = m')

/-! ### BankFileParser -/

/-- R64: the checked read answers exactly the bytes asked for, and only when they all lie inside the buffer. -/
def Obligations.CheckedReadStaysInside : Prop :=
  ∀ (buf : Bytes) (off n : Nat),
    (off + n ≤ buf.length → ∃ b : Bytes, memRead buf off n = some b ∧ b.length = n
      ∧ ∀ k, k < n → b[k]? = buf[off + k]?)
    ∧ (buf.length < off + n → memRead buf off n = none)

/-- R231, R235: BF.PARSE checks the magic, then the header's length, then that the meta-table and every melodic record are
present; a file that passes completes with one entry per melodic bank. -/
def Obligations.BankBoundsComeFirst : Prop :=
  ∀ (s : State) (file : Bytes), s.cfg.accepts file →
    let u := fun k => (file.getD k 0).toNat
    let version := u 11 + 256 * u 12
    let melodic := 256 * u 13 + u 14
    let percussion := 256 * u 15 + u 16
    let size := if 2 < version then 66 else 62
    let table := if 2 ≤ version then 19 + 34 * (melodic + percussion) else 19
    let need := table + melodic * 128 * size
    let answers := fun r : Response => exec (.bfParse file) s = .next { s with responses := s.responses ++ [r] }
    if file.take 11 ≠ [0x57, 0x4F, 0x50, 0x4C, 0x33, 0x2D, 0x42, 0x41, 0x4E, 0x4B, 0x00] then
      answers (.err (.unsupportedFileFormat .badMagic 0))
    else if file.length < 19 then answers (.err (.unsupportedFileFormat .truncated 19))
    else if file.length < need then answers (.err (.unsupportedFileFormat .truncated need))
    else ∃ b : Bank, b.length = melodic ∧ answers (.ok (.bank b))

/-- R236: `dec(i)` is the ASCII decimal digits of `i` with no leading zeros: bytes 0x30 to 0x39 that read as `i`, the first
0x30 only where `i` is 0 and it is alone. -/
def Obligations.LabelIndexIsDecimal : Prop :=
  ∀ i : Nat, isDecimalOf i (dec i) ∧ ((dec i).head? = some 0x30 → i = 0)

/-- R233, R234, R236 to R243: what a complete bank file parses to, bank by bank and slot by slot, as a function of its bytes.
The index of a label is given by what its digits are (`isDecimalOf`), which leaves one byte string for each. -/
def Obligations.BankHoldsTheKeptSlots : Prop :=
  ∀ (s : State) (file : Bytes), s.cfg.accepts file →
    let u := fun k => (file.getD k 0).toNat
    let version := u 11 + 256 * u 12
    let melodic := 256 * u 13 + u 14
    let percussion := 256 * u 15 + u 16
    let size := if 2 < version then 66 else 62
    let table := if 2 ≤ version then 19 + 34 * (melodic + percussion) else 19
    let text := fun at_ => ((file.drop at_).take 32).takeWhile fun b => b ≠ 0
    let bankName := fun i => if 2 ≤ version then text (19 + 34 * i) else []
    let label := fun (digits : Nat → Bytes) i => [0x5B] ++ digits i ++ [0x5D, 0x20] ++
      (if bankName i = [] then [0x55, 0x6E, 0x6E, 0x61, 0x6D, 0x65, 0x64, 0x20, 0x42, 0x61, 0x6E, 0x6B] else bankName i)
    let slot := fun i pos : Nat =>
      let r := table + i * size * 128 + pos * size
      let at_ := fun (o k : Nat) => file.getD (r + o + k) 0
      let md := at_ s.cfg.modOff.val
      let ca := at_ s.cfg.carOff.val
      let img : Image := #v[0x00, md 0, md 1, md 2, md 3, md 4, at_ s.cfg.fbconnOff.val 0,
        ca 0, ca 1, ca 2, ca 3, ca 4]
      if at_ s.cfg.flagsOff.val 0 &&& 0x07 ≠ 0 then none
      else some (if text r = [] then s.cfg.gmName.toList.getD pos [] else text r, rcDec img)
    file.take 11 = [0x57, 0x4F, 0x50, 0x4C, 0x33, 0x2D, 0x42, 0x41, 0x4E, 0x4B, 0x00] → 19 ≤ file.length →
    table + melodic * 128 * size ≤ file.length →
    ∃ digits : Nat → Bytes, (∀ i, isDecimalOf i (digits i))
      ∧ exec (.bfParse file) s = .next { s with responses := s.responses ++
        [.ok (.bank ((List.range melodic).map fun i => ⟨label digits i, (List.range 128).filterMap (slot i)⟩))] }

/-- R43: labels of different banks differ, whatever the banks are called. -/
def Obligations.LabelsOfDifferentBanksDiffer : Prop :=
  ∀ (i j : Nat) (a b : Bytes), i ≠ j → labelOf i a ≠ labelOf j b

/-- R244, R245: the header's flags and model bytes affect no result, and bytes after those required affect no Bank. -/
def Obligations.BankIgnoresUnusedBytes : Prop :=
  ∀ (cfg : Config) (file : Bytes),
    (∀ b : Byte, bfParse cfg (file.set 17 b) = bfParse cfg file ∧ bfParse cfg (file.set 18 b) = bfParse cfg file)
    ∧ ∀ (bank : Bank) (more : Bytes), bfParse cfg file = .ok bank → bfParse cfg (file ++ more) = .ok bank

/-! ### The receiving device -/

/-- R288: what the device does with every frame, row by row: the table of the rule. -/
def Obligations.DeviceFollowsTheFrameTable : Prop :=
  ∀ (s : State) (fr : Bytes) (rest : List Event), s.events = .arrive (.frame fr) :: rest →
    ∃ t : State, step s = .next t ∧ t.cfg = s.cfg ∧ t.events = rest ∧ t.responses = s.responses
      ∧ match mfParse fr with
        | .ok (.paramUpdate k _ tr) =>
          (∀ j, j ≠ k → t.devSlot j = s.devSlot j)
          ∧ (tr.offset.toNat ≤ 11 → t.replies = s.replies
              ∧ ∀ i : Fin 12, (t.devSlot k)[i.val]
                  = if i.val = tr.offset.toNat then ((s.devSlot k)[i.val] &&& tr.mask) ||| tr.value
                    else (s.devSlot k)[i.val])
        | .ok (.dump k _ m) =>
          t.devSlot k = m ∧ (∀ j, j ≠ k → t.devSlot j = s.devSlot j) ∧ t.replies = s.replies
        | .ok (.request k _) =>
          t.dev = s.dev ∧ ∃ m : Image, (m = s.devSlot k ∨ m = clearUnused (s.devSlot k))
            ∧ t.replies = s.replies ++ [[0xF0, 0x7D, 0x03, 0x00, 0x00, BitVec.ofNat 8 k.val] ++ bpEnc m.toList ++ [0xF7]]
        | .ok (.response _ _ _ _) => t.dev = s.dev ∧ t.replies = s.replies
        | .error _ => t.dev = s.dev ∧ t.replies = s.replies

/-- R288: a Dump frame completes: its slot takes the image, and nothing else changes. -/
def Obligations.DumpFrameStoresItsImage : Prop :=
  ∀ (s : State) (k : Fin 16) (rv : Byte × Byte) (m : Image),
    ∃ t : State, exec (.frameDump k rv m) s = .next t ∧ t.devSlot k = m
      ∧ (∀ j, j ≠ k → t.devSlot j = s.devSlot j) ∧ t = { s with dev := t.dev }

/-- R288, R72: a parameter update whose offset names a byte completes: that byte of that slot is read, masked and written, and
nothing else changes. -/
def Obligations.ParameterFrameUpdatesOneByte : Prop :=
  ∀ (s : State) (k : Fin 16) (rv : Byte × Byte) (tr : Triple) (o : Fin 12), tr.offset.toNat = o.val →
    ∃ t : State, exec (.frameParam k rv tr) s = .next t
      ∧ (t.devSlot k)[o.val] = ((s.devSlot k)[o.val] &&& tr.mask) ||| tr.value
      ∧ (∀ i : Fin 12, i ≠ o → (t.devSlot k)[i.val] = (s.devSlot k)[i.val])
      ∧ (∀ j, j ≠ k → t.devSlot j = s.devSlot j) ∧ t = { s with dev := t.dev }

/-- R288, 93 U6: a parameter update whose offset is above 11 completes too. Its slot and the frames sent are free; the other
slots, the block's ports and the frames already sent are as before. (What the slot then holds is a constant without a body,
log 7.) -/
def Obligations.StrayParameterFrameStaysInItsSlot : Prop :=
  ∀ (s : State) (k : Fin 16) (rv : Byte × Byte) (tr : Triple), 11 < tr.offset.toNat →
    ∃ t : State, exec (.frameParam k rv tr) s = .next t ∧ (∀ j, j ≠ k → t.devSlot j = s.devSlot j)
      ∧ t.cfg = s.cfg ∧ t.events = s.events ∧ t.responses = s.responses ∧ s.replies <+: t.replies

/-- R288: a Request frame completes with one reply, a frame that MF.PARSE reads as the Response for that slot, with the
instrument the slot holds; the device's registers and the block's ports are as before. -/
def Obligations.RequestFrameIsAnsweredWithTheInstrument : Prop :=
  ∀ (s : State) (k : Fin 16) (rv : Byte × Byte),
    ∃ (t : State) (reply : Bytes) (m : Image), exec (.frameReq k rv) s = .next t
      ∧ t.replies = s.replies ++ [reply]
      ∧ mfParse reply = .ok (.response k (0, 0) m (rcDec (s.devSlot k)))
      ∧ (m = s.devSlot k ∨ m = clearUnused (s.devSlot k))
      ∧ t.dev = s.dev ∧ t.cfg = s.cfg ∧ t.events = s.events ∧ t.responses = s.responses

/-- R288: a Response frame has no effect on the device. -/
def Obligations.ResponseFrameLeavesTheDevice : Prop :=
  ∀ (s : State) (k : Fin 16) (rv : Byte × Byte) (m : Image), exec (.frameResp k rv m) s = .next s

/-- R288: a malformed frame has no effect on the device. -/
def Obligations.MalformedFrameLeavesTheDevice : Prop :=
  ∀ (s : State) (fr : Bytes) (rest : List Event) (e : ErrorInfo), s.events = .arrive (.frame fr) :: rest →
    mfParse fr = .error e → step s = .next { s with events := rest }

/-- R305: delivering the frame MF.BUILD.PARAM builds makes the slot's instrument the one it was with that field set to the
value, whatever the device held. -/
def Obligations.BuiltUpdateSetsTheDeviceField : Prop :=
  ∀ (s : State) (q : Rat) (fsel : Byte) (v : Int) (f : InsField) (op : OpSel),
    InsField.ofFsel fsel = some (f, op) → f.inRange v = true →
    ∃ (fr : Bytes) (t : State),
      exec (.mfBuildParam q fsel v) s = .next { s with responses := s.responses ++ [.ok (.bytes fr)] }
      ∧ step { s with events := [.arrive (.frame fr)] } = .next t
      ∧ rcDec (t.devSlot (slotOf q)) = (rcDec (s.devSlot (slotOf q))).setField f op v
      ∧ ∀ j, j ≠ slotOf q → t.devSlot j = s.devSlot j
end

