-- ==== Sys2Proof/Laws/Operands.lean ====
section
/-! SUPPORT. What the operand operations do: the length bound, the checked read, images from bytes, the field table. -/

namespace Sys2Proof.Machine

/-- The length bound answers ok on what MAX_LEN accepts and TooLong on the rest. -/
theorem checkLength_eq (cfg : Config) (data : Bytes) :
    (cfg.accepts data ∧ checkLength cfg data = .ok ())
      ∨ (¬ cfg.accepts data ∧ checkLength cfg data = .error (.illegalRequest .tooLong)) := by
  unfold checkLength Config.accepts
  cases h : cfg.maxLen with
  | none => simp
  | some n =>
    by_cases hn : n < data.length
    · right; simp [hn]
    · left; simp [hn]; omega

theorem checkLength_of_accepts {cfg : Config} {data : Bytes} (h : cfg.accepts data) : checkLength cfg data = .ok () := by
  rcases checkLength_eq cfg data with ⟨_, h'⟩ | ⟨hn, _⟩
  · exact h'
  · exact absurd h hn

theorem checkLength_of_not_accepts {cfg : Config} {data : Bytes} (h : ¬ cfg.accepts data) :
    checkLength cfg data = .error (.illegalRequest .tooLong) := by
  rcases checkLength_eq cfg data with ⟨ha, _⟩ | ⟨_, h'⟩
  · exact absurd ha h
  · exact h'

@[simp] theorem length_slice (b : Bytes) (i j : Nat) : (slice b i j).length = min (j - i) (b.length - i) := by
  simp [slice]

theorem getElem?_slice (b : Bytes) (i j k : Nat) : (slice b i j)[k]? = if k < j - i then b[i + k]? else none := by
  simp [slice, List.getElem?_take, List.getElem?_drop]

/-- A checked read answers exactly when its bytes lie inside the buffer, with exactly `n` bytes. -/
theorem memRead_eq_some {buf : Bytes} {off n : Nat} (h : off + n ≤ buf.length) :
    memRead buf off n = some (slice buf off (off + n)) ∧ (slice buf off (off + n)).length = n := by
  refine ⟨by simp [memRead, h], ?_⟩
  rw [length_slice]; omega

theorem memRead_eq_none {buf : Bytes} {off n : Nat} (h : ¬ off + n ≤ buf.length) : memRead buf off n = none := by
  simp [memRead, h]

@[simp] theorem imageOfBytes_toList (m : Image) : imageOfBytes m.toList = some m := by
  simp [imageOfBytes, Vector.toList]

theorem imageOfBytes_eq_none {b : Bytes} (h : b.length ≠ 12) : imageOfBytes b = none := by
  simp [imageOfBytes, h]

theorem imageOfBytes_eq_some {b : Bytes} {m : Image} (h : imageOfBytes b = some m) : b = m.toList := by
  unfold imageOfBytes at h
  split at h
  · cases h; rfl
  · cases h

/-- A field's byte lies in the image (R62). -/
theorem offset_lt (f : InsField) (op : OpSel) : f.offset op < 12 := by
  cases f <;> cases op <;> decide

/-- The selector of a field names it; a shared field's selector names it with OPSEL 0. -/
theorem ofFsel_fsel (f : InsField) (op : OpSel) :
    InsField.ofFsel (f.fsel op) = some (f, if f.shared then .modulator else op) := by
  cases f <;> cases op <;> decide

/-- A legal selector is the selector of what it names. -/
theorem fsel_of_ofFsel : ∀ fsel : Byte, ∀ f op, InsField.ofFsel fsel = some (f, op) → f.fsel op = fsel := by
  have h : ∀ fsel : Byte, ∀ fo ∈ InsField.ofFsel fsel, fo.1.fsel fo.2 = fsel := by decide
  intro fsel f op hf
  exact h fsel (f, op) hf

theorem inRange_iff (f : InsField) (v : Int) : f.inRange v = true ↔ 0 ≤ v ∧ v ≤ f.maxValue := by
  simp [InsField.inRange]

/-- `check` answers ok when every field it tests is in range, and otherwise the first that is not. -/
theorem checkInstrument_cases (ins : Instrument) :
    (checkInstrument ins = .ok () ∧ ∀ fo ∈ checkOrder, fo.1.inRange (ins.getField fo.1 fo.2) = true)
      ∨ ∃ fo ∈ checkOrder, fo.1.inRange (ins.getField fo.1 fo.2) = false
          ∧ checkInstrument ins = .error (.invalidRange (fo.1.fsel fo.2) (ins.getField fo.1 fo.2)) := by
  unfold checkInstrument
  split
  · next h => exact .inl ⟨rfl, by simpa [List.find?_eq_none] using h⟩
  · next fo h =>
    exact .inr ⟨fo, List.mem_of_find?_eq_some h, by simpa using List.find?_some h, rfl⟩

end Sys2Proof.Machine
end

