-- ==== Sys2Proof/Laws/Fields.lean ====
section
/-! SUPPORT. The fields of an instrument as a record: two instruments with the same fields are equal, setting a field changes
that field alone, and `check` passes exactly the valid instruments. -/

namespace Sys2Proof

open Machine

/-- An instrument is what its fields are. -/
theorem Instrument.ext_getField {a b : Instrument} (h : ∀ f op, a.getField f op = b.getField f op) : a = b := by
  have boolEq : ∀ x y : Bool, x.toInt = y.toInt → x = y := by decide
  have operatorEq : ∀ op, a.operator op = b.operator op := by
    intro op
    have g := fun f => h f op
    have h1 := boolEq _ _ (g .tremolo)
    have h2 := boolEq _ _ (g .vibrato)
    have h3 := boolEq _ _ (g .sustaining)
    have h4 := boolEq _ _ (g .envelopeScaling)
    have h5 := g .frequencyMultiplier
    have h6 := g .keyScale
    have h7 := g .outputLevel
    have h8 := g .attack
    have h9 := g .decay
    have h10 := g .sustain
    have h11 := g .release
    have h12 := g .waveform
    simp only [Instrument.getField] at h5 h6 h7 h8 h9 h10 h11 h12
    generalize a.operator op = x at *
    generalize b.operator op = y at *
    cases x; cases y; simp_all
  have d := h .drumChannel .modulator
  have f := h .feedback .modulator
  have c := boolEq _ _ (h .frequencyModulation .modulator)
  have m := operatorEq .modulator
  have r := operatorEq .carrier
  cases a; cases b
  simp_all [Instrument.getField, Instrument.operator]

/-- Setting a field to a value in range sets it, and leaves every field with another selector. -/
theorem Instrument.getField_setField (ins : Instrument) (f g : InsField) (op p : OpSel) (v : Int)
    (hv : f.inRange v = true) :
    (ins.setField f op v).getField g p = if f.fsel op = g.fsel p then v else ins.getField g p := by
  have hb : f.maxValue = 1 → v = 0 ∨ v = 1 := by
    intro h; rw [inRange_iff, h] at hv; omega
  cases f <;> cases g <;> cases op <;> cases p <;>
    simp [Instrument.setField, Instrument.getField, Instrument.operator, Instrument.withOperator, InsField.fsel,
      InsField.fid, InsField.shared, OpSel.bit]
  all_goals (rcases hb rfl with rfl | rfl <;> rfl)

/-- Two selectors that are equal name the same field at the same byte. -/
theorem InsField.eq_of_fsel_eq (f g : InsField) (op p : OpSel) (h : f.fsel op = g.fsel p) :
    f = g ∧ f.offset op = g.offset p := by
  revert h; cases f <;> cases g <;> cases op <;> cases p <;> decide

/-- R103: the inverse of the polarity function, from the stored bits to the value. -/
def InsField.unstored (f : InsField) (stored : Nat) : Int :=
  match f with
  | .outputLevel => 63 - stored
  | .sustain => 15 - stored
  | .frequencyModulation => if stored = 0 then 1 else 0
  | _ => stored

/-- R103: extracting a field's value from its byte. -/
def InsField.extract (f : InsField) (b : Byte) : Int := f.unstored ((b.toNat >>> f.lo) % 2 ^ f.width)

/-- RC.DEC field by field: each is extracted from its byte (R103, R143). -/
theorem getField_rcDec (m : Image) (f : InsField) (op : OpSel) :
    (rcDec m).getField f op = f.extract (m[f.offset op]'(offset_lt f op)) := by
  cases f <;> cases op <;>
    simp only [rcDec, decodeOperator, Instrument.getField, Instrument.operator, InsField.extract, InsField.unstored,
      InsField.lo, InsField.width, bits, InsField.offset, InsField.shared, InsField.k, OpSel.base, if_true, if_false,
      Bool.false_eq_true]
  all_goals norm_num
  all_goals first
    | (generalize m[0] = b; revert b; decide +kernel)
    | (generalize m[6] = b; revert b; decide +kernel)
    | (generalize m[1] = b; revert b; decide +kernel)
    | (generalize m[7] = b; revert b; decide +kernel)

/-- `check` passes exactly the valid instruments (R38, R140). -/
theorem Instrument.valid_iff (ins : Instrument) : ins.valid = true ↔ checkInstrument ins = .ok () := by
  constructor
  · intro h
    rcases checkInstrument_cases ins with ⟨h1, _⟩ | ⟨fo, hm, hr, _⟩
    · exact h1
    · exfalso
      simp [Instrument.valid, Operator.valid] at h
      simp [checkOrder, operatorCheckOrder] at hm
      rcases hm with rfl|rfl|rfl|rfl|rfl|rfl|rfl|rfl|rfl|rfl|rfl|rfl|rfl|rfl|rfl|rfl|rfl|rfl <;>
        (rw [Bool.eq_false_iff] at hr; apply hr; rw [inRange_iff]
         simp [Instrument.getField, Instrument.operator, InsField.maxValue]; omega)
  · intro h
    rcases checkInstrument_cases ins with ⟨_, h1⟩ | ⟨fo, hm, hr, h2⟩
    · simp only [inRange_iff] at h1
      simp [checkOrder, operatorCheckOrder, Instrument.getField, Instrument.operator, InsField.maxValue] at h1
      simp [Instrument.valid, Operator.valid]
      omega
    · rw [h] at h2; cases h2

end Sys2Proof
end

