-- ==== Sys2Proof/Laws/Codec.lean ====
section
/-! SUPPORT. What the shared pieces of the codec do: groups, the frame builder, the device's byte update, the checked reads
of a file. -/

namespace Sys2Proof.Machine

@[simp] theorem groups_nil (size : Nat) (h : 0 < size) : groups size [] = [] := by
  have : (size - 1) / size = 0 := Nat.div_eq_of_lt (by omega)
  simp [groups, this]

/-- A whole group at the front is the first group, and the rest is cut as it would be alone (R128). -/
theorem groups_append (size : Nat) (hs : 0 < size) (grp rest : Bytes) (hg : grp.length = size) :
    groups size (grp ++ rest) = grp :: groups size rest := by
  have hn : (grp.length + rest.length + (size - 1)) / size = (rest.length + (size - 1)) / size + 1 := by
    rw [hg, Nat.add_assoc, Nat.add_div_left _ hs]
  simp only [groups, List.length_append, hn, List.range_succ_eq_map, List.map_cons, List.map_map]
  congr 1
  · simp [slice, ← hg]
  · apply List.map_congr_left
    intro g _
    have h1 : (grp ++ rest).drop (size * (g + 1)) = rest.drop (size * g) := by
      rw [show size * (g + 1) = grp.length + size * g by rw [hg]; ring, List.drop_append]
      simp
    simp only [Function.comp, Nat.succ_eq_add_one, slice, h1, Nat.add_sub_cancel_left]

/-- A last group that is not whole is cut as it stands. -/
theorem groups_short (size : Nat) (grp : Bytes) (hg : 0 < grp.length) (hl : grp.length ≤ size) :
    groups size grp = [grp] := by
  have hn : (grp.length + (size - 1)) / size = 1 := by
    rw [Nat.div_eq_iff (by omega)]; omega
  simp [groups, hn, slice, List.take_of_length_le hl]

@[simp] theorem bpEnc_nil : bpEnc [] = [] := by simp [bpEnc]

@[simp] theorem bpDec_nil : bpDec [] = [] := by simp [bpDec]

theorem bpEnc_group_append (grp rest : Bytes) (h : grp.length = 7) :
    bpEnc (grp ++ rest) = encodeGroup grp ++ bpEnc rest := by
  simp [bpEnc, groups_append 7 (by decide) grp rest h]

theorem bpDec_group_append (grp rest : Bytes) (h : grp.length = 8) :
    bpDec (grp ++ rest) = decodeGroup grp ++ bpDec rest := by
  simp [bpDec, groups_append 8 (by decide) grp rest h]

theorem bpEnc_short (grp : Bytes) (h0 : 0 < grp.length) (h : grp.length ≤ 7) : bpEnc grp = encodeGroup grp := by
  simp [bpEnc, groups_short 7 grp h0 h]

theorem bpDec_short (grp : Bytes) (h0 : 0 < grp.length) (h : grp.length ≤ 8) : bpDec grp = decodeGroup grp := by
  simp [bpDec, groups_short 8 grp h0 h]

/-- Induction over a byte sequence cut into groups: empty, one short group, or a whole group and the rest. -/
theorem bytes_group_induction {P : Bytes → Prop} (size : Nat) (hs : 0 < size) (empty : P [])
    (short : ∀ g : Bytes, 0 < g.length → g.length < size → P g)
    (whole : ∀ g r : Bytes, g.length = size → P r → P (g ++ r)) : ∀ x, P x := by
  intro x
  induction hn : x.length using Nat.strong_induction_on generalizing x with
  | _ n ih =>
    by_cases h : x.length < size
    · by_cases h' : x.length = 0
      · rw [List.length_eq_zero_iff.mp h']; exact empty
      · exact short x (by omega) h
    · rw [← List.take_append_drop size x]
      refine whole _ _ (by simp; omega) (ih (x.drop size).length ?_ _ rfl)
      simp; omega

@[simp] theorem length_encodeGroup (grp : Bytes) : (encodeGroup grp).length = grp.length + 1 := by
  simp [encodeGroup]

@[simp] theorem length_decodeGroup (grp : Bytes) : (decodeGroup grp).length = grp.length - 1 := by
  cases grp <;> simp [decodeGroup]

@[simp] theorem length_frameBytes (cmd : Byte) (reserved : Byte × Byte) (slot : Fin 16) (payload : Bytes) :
    (frameBytes cmd reserved slot payload).length = 7 + (bpEnc payload).length := by
  simp [frameBytes]; omega

/-- The device's update writes the byte the offset names and no other. -/
theorem getElem_applyTriple (m : Image) (t : Triple) (k : Nat) (hk : k < 12) :
    (applyTriple m t)[k] = if t.offset.toNat = k then (m[k] &&& t.mask) ||| t.value else m[k] := by
  unfold applyTriple
  split
  · rw [Vector.getElem_set]
    split
    · next h => subst h; rfl
    · rfl
  · next h => rw [if_neg (by omega)]

@[simp] theorem getElem_clearUnused (m : Image) (k : Nat) (hk : k < 12) :
    (clearUnused m)[k] = m[k] &&& usedBits[k] := by
  simp [clearUnused]

/-- A checked byte read inside the file answers its byte. -/
theorem readByte_eq {file : Bytes} {off : Nat} (h : off < file.length) : readByte file off = .ok file[off] := by
  simp [readByte, h]

/-- A checked read inside the file answers its bytes. -/
theorem readBytes_eq {file : Bytes} {off n : Nat} (h : off + n ≤ file.length) :
    readBytes file off n = .ok (slice file off (off + n)) := by
  simp [readBytes, memRead, h]

@[simp] theorem tripleOfBytes_tripleBytes (t : Triple) : tripleOfBytes (tripleBytes t) = some t := rfl

theorem tripleOfBytes_eq_some {b : Bytes} {t : Triple} (h : tripleOfBytes b = some t) : b = tripleBytes t := by
  unfold tripleOfBytes at h
  split at h
  · cases h; rfl
  · cases h

/-! What MF.PARSE makes of a payload, by command (R191). -/

theorem parsedResult_dump (slot : Fin 16) (reserved : Byte × Byte) (p : Bytes) :
    parsedResult 0x00 slot reserved p = (imageOfBytes p).map fun m => .dump slot reserved m := rfl

theorem parsedResult_paramUpdate (slot : Fin 16) (reserved : Byte × Byte) (p : Bytes) :
    parsedResult 0x01 slot reserved p = (tripleOfBytes p).map fun t => .paramUpdate slot reserved t := rfl

theorem parsedResult_request (slot : Fin 16) (reserved : Byte × Byte) :
    parsedResult 0x02 slot reserved [] = some (.request slot reserved) := rfl

theorem parsedResult_response (slot : Fin 16) (reserved : Byte × Byte) (p : Bytes) :
    parsedResult 0x03 slot reserved p = (imageOfBytes p).map fun m => .response slot reserved m (rcDec m) := rfl

/-- Whatever MF.PARSE makes of a payload is one of the four results, over the payload's bytes. -/
theorem parsedResult_cases {cmd : Byte} {slot : Fin 16} {reserved : Byte × Byte} {p : Bytes} {r : ParsedFrame}
    (h : parsedResult cmd slot reserved p = some r) :
    (∃ m : Image, cmd = 0x00 ∧ p = m.toList ∧ r = .dump slot reserved m)
      ∨ (∃ t, cmd = 0x01 ∧ p = tripleBytes t ∧ r = .paramUpdate slot reserved t)
      ∨ (cmd = 0x02 ∧ p = [] ∧ r = .request slot reserved)
      ∨ ∃ m : Image, cmd = 0x03 ∧ p = m.toList ∧ r = .response slot reserved m (rcDec m) := by
  unfold parsedResult at h
  split at h
  · next hc =>
    obtain ⟨m, hm, rfl⟩ := Option.map_eq_some_iff.mp h
    exact .inl ⟨m, hc, imageOfBytes_eq_some hm, rfl⟩
  split at h
  · next hc =>
    obtain ⟨t, ht, rfl⟩ := Option.map_eq_some_iff.mp h
    exact .inr (.inl ⟨t, hc, tripleOfBytes_eq_some ht, rfl⟩)
  split at h
  · next hc =>
    split at h
    · next hp => cases h; exact .inr (.inr (.inl ⟨hc, hp, rfl⟩))
    · cases h
  split at h
  · next hc =>
    obtain ⟨m, hm, rfl⟩ := Option.map_eq_some_iff.mp h
    exact .inr (.inr (.inr ⟨m, hc, imageOfBytes_eq_some hm, rfl⟩))
  · cases h

/-- What every component of a bank parse has in common: a read that always answers makes a list of answers. -/
theorem mapM_except_ok {α β ε : Type} (f : α → Except ε β) (g : α → β) (l : List α) (h : ∀ a ∈ l, f a = .ok (g a)) :
    l.mapM f = .ok (l.map g) := by
  induction l with
  | nil => rfl
  | cons a l ih =>
    rw [List.mapM_cons, h a (by simp), ih (fun b hb => h b (by simp [hb]))]; rfl

/-- RC.TRIPLE by what its selector names. -/
theorem rcTriple_cases (fsel : Byte) (v : Int) :
    (InsField.ofFsel fsel = none ∧ rcTriple fsel v = .error (.illegalRequest .badFieldSelector))
      ∨ ∃ f op, InsField.ofFsel fsel = some (f, op)
          ∧ ((f.inRange v = true ∧ rcTriple fsel v = .ok (tripleOf f op v))
            ∨ (f.inRange v = false ∧ rcTriple fsel v = .error (.invalidRange fsel v))) := by
  unfold rcTriple
  cases h : InsField.ofFsel fsel with
  | none => exact .inl ⟨rfl, rfl⟩
  | some fo =>
    refine .inr ⟨fo.1, fo.2, rfl, ?_⟩
    cases hr : fo.1.inRange v <;> simp [hr]

end Sys2Proof.Machine
end

