-- ==== Sys2Proof/Laws/PerInstr.lean ====
section
/-! SUPPORT. Statements made of every instruction, one lemma a constructor. -/

namespace Sys2Proof.Laws.EncodeOpcode

open Machine

/-- The number of bits and the match value `opcode_table.json` gives the instruction's row (R80, R88). -/
def tableCode : Instr → Nat × Nat
  | .bpEnc _ => (8, 0x10)
  | .bpDec _ => (8, 0x11)
  | .rcEnc _ => (8, 0x20)
  | .rcDec _ => (8, 0x21)
  | .rcTriple _ _ => (8, 0x22)
  | .mfBuildDump _ _ => (8, 0x30)
  | .mfBuildParam _ _ _ => (8, 0x31)
  | .mfBuildReq _ => (8, 0x32)
  | .mfBuildResp _ _ => (8, 0x33)
  | .mfParse _ => (8, 0x3F)
  | .bfParse _ => (8, 0x40)
  | .frameDump _ _ _ => (24, 0xF07D00)
  | .frameParam _ _ _ => (24, 0xF07D01)
  | .frameReq _ _ => (24, 0xF07D02)
  | .frameResp _ _ _ => (24, 0xF07D03)

/-- The bits of a packet that the table's masks cover. -/
def packetCode : Packet → Nat × Nat
  | .request r => (8, r.opc.toNat)
  | .frame b => (24, (b.getD 0 0).toNat * 65536 + (b.getD 1 0).toNat * 256 + (b.getD 2 0).toNat)

/-- The encoding of an instruction carries its row's match value under the row's mask. -/
def Statement (i : Instr) : Prop := packetCode (encode i) = tableCode i

theorem bpEnc (data : Bytes) : Statement (.bpEnc data) := rfl

theorem bpDec (data : Bytes) : Statement (.bpDec data) := rfl

theorem rcEnc (ins : Instrument) : Statement (.rcEnc ins) := rfl

theorem rcDec (img : Bytes) : Statement (.rcDec img) := rfl

theorem rcTriple (fsel : Byte) (value : Int) : Statement (.rcTriple fsel value) := rfl

theorem mfBuildDump (slot : Rat) (ins : Instrument) : Statement (.mfBuildDump slot ins) := rfl

theorem mfBuildParam (slot : Rat) (fsel : Byte) (value : Int) : Statement (.mfBuildParam slot fsel value) := rfl

theorem mfBuildReq (slot : Rat) : Statement (.mfBuildReq slot) := rfl

theorem mfBuildResp (slot : Rat) (ins : Instrument) : Statement (.mfBuildResp slot ins) := rfl

theorem mfParse (frame : Bytes) : Statement (.mfParse frame) := rfl

theorem bfParse (file : Bytes) : Statement (.bfParse file) := rfl

theorem frameDump (slot : Fin 16) (reserved : Byte × Byte) (image : Image) :
    Statement (.frameDump slot reserved image) := by
  simp [Statement, packetCode, encode, tableCode, frameBytes, sox, vendor]

theorem frameParam (slot : Fin 16) (reserved : Byte × Byte) (triple : Triple) :
    Statement (.frameParam slot reserved triple) := by
  simp [Statement, packetCode, encode, tableCode, frameBytes, sox, vendor]

theorem frameReq (slot : Fin 16) (reserved : Byte × Byte) : Statement (.frameReq slot reserved) := by
  simp [Statement, packetCode, encode, tableCode, frameBytes, sox, vendor]

theorem frameResp (slot : Fin 16) (reserved : Byte × Byte) (image : Image) :
    Statement (.frameResp slot reserved image) := by
  simp [Statement, packetCode, encode, tableCode, frameBytes, sox, vendor]

end Sys2Proof.Laws.EncodeOpcode
end

