-- ==== Sys2Proof/Laws/State.lean ====
section
/-! SUPPORT. What each update of the state does to each field, one lemma a field, and what the ports read back. -/

namespace Sys2Proof.Machine.State

variable (s : State)

@[simp] theorem respond_cfg (r : Response) : (s.respond r).cfg = s.cfg := rfl
@[simp] theorem respond_events (r : Response) : (s.respond r).events = s.events := rfl
@[simp] theorem respond_responses (r : Response) : (s.respond r).responses = s.responses ++ [r] := rfl
@[simp] theorem respond_dev (r : Response) : (s.respond r).dev = s.dev := rfl
@[simp] theorem respond_replies (r : Response) : (s.respond r).replies = s.replies := rfl
@[simp] theorem respond_free (r : Response) : (s.respond r).free = s.free := rfl

@[simp] theorem raise_eq (e : ErrorInfo) : s.raise e = s.respond (.err e) := rfl

@[simp] theorem answer_ok (v : Value) : s.answer (.ok v) = s.respond (.ok v) := rfl
@[simp] theorem answer_error (e : ErrorInfo) : s.answer (.error e) = s.respond (.err e) := rfl

@[simp] theorem blockReset_cfg : s.blockReset.cfg = s.cfg := rfl
@[simp] theorem blockReset_events : s.blockReset.events = s.events := rfl
@[simp] theorem blockReset_responses : s.blockReset.responses = [] := rfl
@[simp] theorem blockReset_dev : s.blockReset.dev = s.dev := rfl
@[simp] theorem blockReset_replies : s.blockReset.replies = s.replies := rfl
@[simp] theorem blockReset_free : s.blockReset.free = s.free := rfl

@[simp] theorem setDevSlot_cfg (k : Fin 16) (m : Image) : (s.setDevSlot k m).cfg = s.cfg := rfl
@[simp] theorem setDevSlot_events (k : Fin 16) (m : Image) : (s.setDevSlot k m).events = s.events := rfl
@[simp] theorem setDevSlot_responses (k : Fin 16) (m : Image) : (s.setDevSlot k m).responses = s.responses := rfl
@[simp] theorem setDevSlot_replies (k : Fin 16) (m : Image) : (s.setDevSlot k m).replies = s.replies := rfl
@[simp] theorem setDevSlot_free (k : Fin 16) (m : Image) : (s.setDevSlot k m).free = s.free := rfl

@[simp] theorem sendReplies_cfg (fs : List Bytes) : (s.sendReplies fs).cfg = s.cfg := rfl
@[simp] theorem sendReplies_events (fs : List Bytes) : (s.sendReplies fs).events = s.events := rfl
@[simp] theorem sendReplies_responses (fs : List Bytes) : (s.sendReplies fs).responses = s.responses := rfl
@[simp] theorem sendReplies_dev (fs : List Bytes) : (s.sendReplies fs).dev = s.dev := rfl
@[simp] theorem sendReplies_replies (fs : List Bytes) : (s.sendReplies fs).replies = s.replies ++ fs := rfl
@[simp] theorem sendReplies_free (fs : List Bytes) : (s.sendReplies fs).free = s.free := rfl

@[simp] theorem drawFree_cfg : s.drawFree.cfg = s.cfg := rfl
@[simp] theorem drawFree_events : s.drawFree.events = s.events := rfl
@[simp] theorem drawFree_responses : s.drawFree.responses = s.responses := rfl
@[simp] theorem drawFree_dev : s.drawFree.dev = s.dev := rfl
@[simp] theorem drawFree_replies : s.drawFree.replies = s.replies := rfl
@[simp] theorem drawFree_free : s.drawFree.free = s.free + 1 := rfl

/-- Reading the device's register file after writing one slot. -/
theorem devSlot_setDevSlot (k j : Fin 16) (m : Image) :
    (s.setDevSlot k m).devSlot j = if k = j then m else s.devSlot j := by
  simp [devSlot, setDevSlot, Vector.getElem_set, Fin.ext_iff]

@[simp] theorem devSlot_setDevSlot_same (k : Fin 16) (m : Image) : (s.setDevSlot k m).devSlot k = m := by
  simp [devSlot_setDevSlot]

theorem devSlot_setDevSlot_other {k j : Fin 16} (h : k ≠ j) (m : Image) :
    (s.setDevSlot k m).devSlot j = s.devSlot j := by
  simp [devSlot_setDevSlot, h]

@[simp] theorem devSlot_respond (r : Response) (k : Fin 16) : (s.respond r).devSlot k = s.devSlot k := rfl
@[simp] theorem devSlot_sendReplies (fs : List Bytes) (k : Fin 16) : (s.sendReplies fs).devSlot k = s.devSlot k := rfl
@[simp] theorem devSlot_drawFree (k : Fin 16) : s.drawFree.devSlot k = s.devSlot k := rfl
@[simp] theorem devSlot_blockReset (k : Fin 16) : s.blockReset.devSlot k = s.devSlot k := rfl

/-- An answer gives exactly one response: the result's or the error's. -/
theorem answer_cases (x : Except ErrorInfo Value) :
    (∃ v, x = .ok v ∧ s.answer x = s.respond (.ok v)) ∨ (∃ e, x = .error e ∧ s.answer x = s.respond (.err e)) := by
  cases x with
  | ok v => exact .inl ⟨v, rfl, rfl⟩
  | error e => exact .inr ⟨e, rfl, rfl⟩

/-- What the stray update leaves alone, beside other slots of the device. -/
@[simp] theorem strayUpdate_cfg (k : Fin 16) : (s.strayUpdate k).cfg = s.cfg := rfl
@[simp] theorem strayUpdate_events (k : Fin 16) : (s.strayUpdate k).events = s.events := rfl
@[simp] theorem strayUpdate_responses (k : Fin 16) : (s.strayUpdate k).responses = s.responses := rfl

theorem devSlot_strayUpdate_other {k j : Fin 16} (h : k ≠ j) : (s.strayUpdate k).devSlot j = s.devSlot j := by
  simp [strayUpdate, devSlot_setDevSlot_other s h]

/-- The image of a reply is what the slot holds, or that with the unused bits cleared. -/
theorem replyImage_cases (k : Fin 16) :
    s.replyImage k = s.devSlot k ∨ s.replyImage k = clearUnused (s.devSlot k) := by
  unfold replyImage
  split
  · exact .inl rfl
  · exact .inr rfl

/-- What fetching does, by what is presented next. -/
theorem fetch_nil (h : s.events = []) : s.fetch = .done s := by
  simp [fetch, h]

theorem fetch_reset {r : Option Request} {rest : List Event} (h : s.events = .resetDuring r :: rest) :
    s.fetch = .done ({ s with events := rest } : State).blockReset := by
  simp [fetch, h]

theorem fetch_ok {p : Packet} {rest : List Event} {i : Instr} (h : s.events = .arrive p :: rest)
    (hd : decode p = .ok i) : s.fetch = .run i { s with events := rest } := by
  simp [fetch, h, hd]

theorem fetch_error {p : Packet} {rest : List Event} {e : ErrorInfo} (h : s.events = .arrive p :: rest)
    (hd : decode p = .error e) : s.fetch = .done (({ s with events := rest } : State).undecoded p e) := by
  simp [fetch, h, hd]

end Sys2Proof.Machine.State
end

