-- ==== Sys2Proof/Laws/Step.lean ====
section
/-! SUPPORT. What a step can do: by what is presented next, and by which instruction runs. -/

namespace Sys2Proof.Machine

theorem step_of_run {s s' : State} {i : Instr} (h : s.fetch = .run i s') : step s = exec i s' := by
  simp [step, h]

theorem step_of_done {s s' : State} (h : s.fetch = .done s') : step s = .next s' := by
  simp [step, h]

/-- What a step can do, said once: it is idle, it takes a reset, it answers or drops a packet that holds no instruction, or
it runs the instruction a packet holds. -/
theorem step_cases (s : State) :
    (s.events = [] ∧ step s = .next s)
      ∨ (∃ r rest, s.events = .resetDuring r :: rest
          ∧ step s = .next ({ s with events := rest } : State).blockReset)
      ∨ (∃ p rest e, s.events = .arrive p :: rest ∧ decode p = .error e
          ∧ step s = .next (({ s with events := rest } : State).undecoded p e))
      ∨ (∃ p rest i, s.events = .arrive p :: rest ∧ decode p = .ok i
          ∧ step s = exec i { s with events := rest }) := by
  match h : s.events with
  | [] => exact .inl ⟨rfl, step_of_done (s.fetch_nil h)⟩
  | .resetDuring r :: rest => exact .inr (.inl ⟨r, rest, rfl, step_of_done (s.fetch_reset h)⟩)
  | .arrive p :: rest =>
    match hd : decode p with
    | .error e => exact .inr (.inr (.inl ⟨p, rest, e, rfl, hd, step_of_done (s.fetch_error h hd)⟩))
    | .ok i => exact .inr (.inr (.inr ⟨p, rest, i, rfl, hd, step_of_run (s.fetch_ok h hd)⟩))

/-- Only a request decodes to an operation of the block, and only a frame to a frame instruction. -/
theorem isBlockOperation_of_decodeRequest {r : Request} {i : Instr} (h : decodeRequest r = .ok i) :
    i.isBlockOperation = true := by
  unfold decodeRequest at h
  split at h <;> cases h <;> rfl

theorem isBlockOperation_of_decodeFrame {b : Bytes} {i : Instr} (h : decodeFrame b = .ok i) :
    i.isBlockOperation = false := by
  unfold decodeFrame at h
  split at h <;> cases h <;> rfl

end Sys2Proof.Machine
end

