-- ==== Sys2Proof/Tests/Slice0.lean ====
section
/-! SUPPORT. The model's own tests. Expected results are those of spec/95_test_vectors.md, or are worked out by hand from the
rules named. The last part shows, for every statement with hypotheses, operands and a state that meet them. -/

namespace Sys2Proof.Tests

set_option Elab.async false

open Machine

/-! ### Helpers -/

/-- Instrument E of 95 section 0. -/
def insE : Instrument where
  drumChannel := 5
  feedback := 5
  frequencyModulation := true
  modulator := { Operator.zero with
    tremolo := true, sustaining := true, keyScale := 1, frequencyMultiplier := 1, outputLevel := 40, attack := 15,
    decay := 2, sustain := 10, release := 4 }
  carrier := { Operator.zero with
    vibrato := true, envelopeScaling := true, keyScale := 2, frequencyMultiplier := 2, outputLevel := 63, attack := 13,
    decay := 3, sustain := 12, release := 6, waveform := 1 }

/-- E with modulator.attack out of range. -/
def insBad : Instrument := { insE with modulator := { insE.modulator with attack := 16 } }

/-- E12 of 95 section 0. -/
def insE12 : Instrument := { insE with modulator := { insE.modulator with attack := 12 } }

/-- RC.ENC of E (95 section 0). -/
def imgE : Bytes := [0x05, 0xA1, 0x57, 0xF2, 0x54, 0x00, 0x0A, 0x52, 0x80, 0xD3, 0x36, 0x01]

/-- The same as a RegisterImage. -/
def vecE : Image := #v[0x05, 0xA1, 0x57, 0xF2, 0x54, 0x00, 0x0A, 0x52, 0x80, 0xD3, 0x36, 0x01]

/-- E's image as BitPacker encodes it (95 section 1.2, P8.4). -/
def packedE : Bytes := [0x28, 0x05, 0x21, 0x57, 0x72, 0x54, 0x00, 0x0A, 0x30, 0x52, 0x00, 0x53, 0x36, 0x01]

/-- A frame of COMMAND `c` for slot 3, its reserved bytes 0. -/
def frame3 (c : Byte) (payload : Bytes) : Bytes := [0xF0, 0x7D, c, 0x00, 0x00, 0x03] ++ payload ++ [0xF7]

/-- A concrete state: every slot of the device holds E's image. -/
def blank : State :=
  { cfg := Config.default, events := [], responses := [], dev := Vector.replicate 16 vecE, replies := [], free := 0 }

/-- The same with one packet presented. -/
def given (p : Packet) : State := { blank with events := [.arrive p] }

/-- The responses after one step with a request presented. -/
def answerTo (r : Request) : List Response :=
  match step (given (.request r)) with
  | .next s => s.responses
  | .fault _ => []
  | .refused _ => []

/-- What slot 3 of the device holds after one step with a frame presented, and how many replies it has sent. -/
def deviceAfter (b : Bytes) : Option (Bytes × Nat) :=
  match step (given (.frame b)) with
  | .next s => some ((s.devSlot 3).toList, s.replies.length)
  | .fault _ => none
  | .refused _ => none

theorem blank_accepts (data : Bytes) : blank.cfg.accepts data := by
  intro n h; cases h

/-! ### WellFormed: an ill-formed term for each check -/

theorem test_wellFormed_rcEnc : (Instr.rcEnc insBad).wellFormed = false := by decide
theorem test_wellFormed_rcEnc_valid : (Instr.rcEnc insE).wellFormed = true := by decide
theorem test_wellFormed_drumChannel : (Instr.rcEnc { insE with drumChannel := 256 }).wellFormed = false := by decide
theorem test_wellFormed_feedback : (Instr.rcEnc { insE with feedback := -1 }).wellFormed = false := by decide
theorem test_wellFormed_rcDec : (Instr.rcDec (imgE.take 11)).wellFormed = false := by decide
theorem test_wellFormed_rcTriple_selector : (Instr.rcTriple 0x10 0).wellFormed = false := by decide
theorem test_wellFormed_rcTriple_value : (Instr.rcTriple 0x19 64).wellFormed = false := by decide
theorem test_wellFormed_mfBuildDump : (Instr.mfBuildDump 1 insBad).wellFormed = false := by decide
theorem test_wellFormed_mfBuildParam : (Instr.mfBuildParam 1 0x0F 0).wellFormed = false := by decide
theorem test_wellFormed_mfBuildResp : (Instr.mfBuildResp 1 insBad).wellFormed = false := by decide
theorem test_wellFormed_frameParam : (Instr.frameParam 1 (0, 0) ⟨12, 0, 0⟩).wellFormed = false := by decide

/-! ### Decode: one word of every row, written out from 30 R80 and R88 -/

theorem test_decode_bpEnc : decodeTableWord 8 0x10 = some (.bpEnc []) := by decide
theorem test_decode_bpDec : decodeTableWord 8 0x11 = some (.bpDec []) := by decide
theorem test_decode_rcEnc : decodeTableWord 8 0x20 = some (.rcEnc Instrument.zero) := by decide
theorem test_decode_rcDec : decode (.request { opc := 0x21, data := imgE }) = .ok (.rcDec imgE) := by decide
theorem test_decode_rcTriple :
    decode (.request { opc := 0x22, fsel := 0x1A, value := 12 }) = .ok (.rcTriple 0x1A 12) := by decide
theorem test_decode_mfBuildDump :
    decode (.request { opc := 0x30, slot := 1, ins := insE }) = .ok (.mfBuildDump 1 insE) := by decide
theorem test_decode_mfBuildParam :
    decode (.request { opc := 0x31, slot := 1, fsel := 0x1E, value := 3 }) = .ok (.mfBuildParam 1 0x1E 3) := by decide
theorem test_decode_mfBuildReq : decodeTableWord 8 0x32 = some (.mfBuildReq 0) := by decide
theorem test_decode_mfBuildResp :
    decode (.request { opc := 0x33, slot := 3, ins := insE }) = .ok (.mfBuildResp 3 insE) := by decide
theorem test_decode_mfParse : decodeTableWord 8 0x3F = some (.mfParse []) := by decide
theorem test_decode_bfParse : decodeTableWord 8 0x40 = some (.bfParse []) := by decide
theorem test_decode_reserved_opcode : decodeTableWord 8 0x12 = none := by decide
theorem test_decode_frameDump :
    decode (.frame (frame3 0x00 packedE)) = .ok (.frameDump 3 (0, 0) vecE) := by decide +kernel
/-- The parameter frame of 95 section 5.1 for modulator.attack 12. -/
theorem test_decode_frameParam :
    decode (.frame [0xF0, 0x7D, 0x01, 0x00, 0x00, 0x01, 0x10, 0x03, 0x0F, 0x40, 0xF7])
      = .ok (.frameParam 1 (0, 0) ⟨3, 0x0F, 0xC0⟩) := by decide +kernel
/-- Byte 5, the slot, is bits 47:40 of the table's numbering, and the reserved bytes are bits 39:24. -/
theorem test_decode_frameReq :
    decodeTableWord 24 0x013412F07D02 = some (.frameReq 1 (0x12, 0x34)) := by decide +kernel
theorem test_decode_frameResp :
    decode (.frame (frame3 0x03 packedE)) = .ok (.frameResp 3 (0, 0) vecE) := by decide +kernel
theorem test_decode_bad_frame : decodeTableWord 24 0xF07D04 = none := by decide +kernel

/-! ### One step of each instruction -/

/-- 95 section 2.1. -/
theorem test_bpEnc : answerTo { opc := 0x10, data := [0x7A, 0x7B, 0x7C, 0x7D, 0x7E, 0x7F, 0x80, 0x81] }
    = [.ok (.bytes [0x01, 0x7A, 0x7B, 0x7C, 0x7D, 0x7E, 0x7F, 0x00, 0x40, 0x01])] := by decide +kernel

/-- 95 section 2.2: a trailing header has no body. -/
theorem test_bpDec : answerTo { opc := 0x11, data := [0x40, 0x05, 0x00, 0x00, 0x00, 0x00, 0x00, 0x00, 0x7F] }
    = [.ok (.bytes [0x85, 0x00, 0x00, 0x00, 0x00, 0x00, 0x00])] := by decide +kernel

/-- 95 section 2.2: header bits of absent bytes are not read. -/
theorem test_bpDec_short : answerTo { opc := 0x11, data := [0x17, 0x03, 0x0F, 0x40] }
    = [.ok (.bytes [0x03, 0x0F, 0xC0])] := by decide +kernel

/-- 95 section 3.1. -/
theorem test_rcEnc : answerTo { opc := 0x20, ins := insE } = [.ok (.image vecE)] := by decide +kernel

/-- 95 section 3.1: every modulator field before every carrier field. -/
theorem test_rcEnc_order : answerTo
      { opc := 0x20, ins := ⟨5, 5, true, { insE.modulator with waveform := 7 }, { insE.carrier with keyScale := 4 }⟩ }
    = [.err (.invalidRange 0x0E 7)] := by decide +kernel

/-- 95 section 3.2: the unused bits of bytes 5, 6 and 11 are ignored. -/
theorem test_rcDec : answerTo
      { opc := 0x21, data := [0x05, 0xA1, 0x57, 0xF2, 0x54, 0xFC, 0xFA, 0x52, 0x80, 0xD3, 0x36, 0xFD] }
    = [.ok (.instrument insE)] := by decide +kernel

/-- 95 section 3.2. -/
theorem test_rcDec_length : answerTo { opc := 0x21, data := imgE.take 11 }
    = [.err (.illegalRequest .badImageLength)] := by decide +kernel

/-- 95 section 3.3. -/
theorem test_rcTriple : answerTo { opc := 0x22, fsel := 0x1C, value := 15 }
    = [.ok (.triple ⟨10, 0x0F, 0x00⟩)] := by decide +kernel

/-- 95 section 3.4: the selector is checked before the value. -/
theorem test_rcTriple_selector : answerTo { opc := 0x22, fsel := 0x0F, value := 999 }
    = [.err (.illegalRequest .badFieldSelector)] := by decide +kernel

/-- 95 section 5.1. -/
theorem test_mfBuildDump : answerTo { opc := 0x30, slot := 3, ins := insE }
    = [.ok (.bytes (frame3 0x00 packedE))] := by decide +kernel

/-- 95 section 5.1. -/
theorem test_mfBuildDump_range : answerTo { opc := 0x30, slot := 1, ins := insBad }
    = [.err (.invalidRange 0x0A 16)] := by decide +kernel

/-- 95 section 5.1: value C8 is carried by header bit 4. -/
theorem test_mfBuildParam : answerTo { opc := 0x31, slot := 0, fsel := 0x00, value := 200 }
    = [.ok (.bytes [0xF0, 0x7D, 0x01, 0x00, 0x00, 0x00, 0x10, 0x00, 0x00, 0x48, 0xF7])] := by decide +kernel

/-- 30 R105: 15/2 rounds upward to 8. -/
theorem test_mfBuildReq_tie : answerTo { opc := 0x32, slot := ⟨15, 2, by decide, by decide⟩ }
    = [.ok (.bytes [0xF0, 0x7D, 0x02, 0x00, 0x00, 0x08, 0xF7])] := by decide +kernel

/-- 30 R105: -1/2 rounds upward to 0. -/
theorem test_mfBuildReq_negative : answerTo { opc := 0x32, slot := ⟨-1, 2, by decide, by decide⟩ }
    = [.ok (.bytes [0xF0, 0x7D, 0x02, 0x00, 0x00, 0x00, 0xF7])] := by decide +kernel

/-- 95 section 1.2, P8.4. -/
theorem test_mfBuildResp : answerTo { opc := 0x33, slot := 3, ins := insE }
    = [.ok (.bytes (frame3 0x03 packedE))] := by decide +kernel

/-- 95 section 1.2, P8.4. -/
theorem test_mfParse : answerTo { opc := 0x3F, data := frame3 0x03 packedE }
    = [.ok (.parsed (.response 3 (0, 0) vecE insE))] := by decide +kernel

/-- 95 section 1.2, P8.5: the Response cut after 7 payload bytes. -/
theorem test_mfParse_cut : answerTo { opc := 0x3F, data := frame3 0x03 (packedE.take 7) }
    = [.err (.malformedFrame .payloadLength 7)] := by decide +kernel

/-- The header of a bank file, version 2, no melodic and `p` percussion banks (95 section 4, B8 to B10). -/
def header2 (p : Byte) : Bytes := magic ++ [0x02, 0x00, 0x00, 0x00, 0x00, p, 0x00, 0x00]

/-- 95 section 4, B10: no percussion record is required. -/
theorem test_bfParse : answerTo { opc := 0x40, data := header2 1 ++ List.replicate 34 0 }
    = [.ok (.bank [])] := by decide +kernel

/-- 95 section 4, B9: the meta-table entry of the percussion bank is required. -/
theorem test_bfParse_truncated : answerTo { opc := 0x40, data := header2 1 }
    = [.err (.unsupportedFileFormat .truncated 53)] := by decide +kernel

/-- The `Lead` record of 95 section 4, its 62 bytes. -/
def leadRecord : Bytes :=
  [0x4C, 0x65, 0x61, 0x64] ++ List.replicate 36 0x00
    ++ [0x0A, 0x00, 0x52, 0x80, 0xD3, 0x36, 0x01, 0xA1, 0x57, 0xF2, 0x54, 0x00] ++ List.replicate 10 0x00

/-- 95 section 4: the record decodes to E0, and its name ends at the NUL. -/
theorem test_readRecord : readRecord Config.default leadRecord 0 0
    = .ok (some ([0x4C, 0x65, 0x61, 0x64], { insE with drumChannel := 0 })) := by decide +kernel

/-- 95 section 4, B14: flags 02 is skipped. -/
theorem test_readRecord_skipped : readRecord Config.default (leadRecord.set 39 0x02) 0 0 = .ok none := by
  decide +kernel

/-- 43 R236: no leading zero, no padding. -/
theorem test_label : labelOf 10 [] = [0x5B, 0x31, 0x30, 0x5D, 0x20] ++ unnamedBank := by decide +kernel

/-- 60 R288: the slot takes the image. -/
theorem test_frameDump : deviceAfter (frame3 0x00 (bpEnc (List.replicate 12 0xFF)))
    = some (List.replicate 12 0xFF, 0) := by decide +kernel

/-- 95 section 1.1: device byte F2 becomes C2. -/
theorem test_frameParam : deviceAfter (frame3 0x01 [0x10, 0x03, 0x0F, 0x40])
    = some (imgE.set 3 0xC2, 0) := by decide +kernel

/-- 60 R288: one reply, the registers as before. -/
theorem test_frameReq : deviceAfter (frame3 0x02 []) = some (imgE, 1) := by decide +kernel

/-- 60 R288: no effect. -/
theorem test_frameResp : deviceAfter (frame3 0x03 (bpEnc (List.replicate 12 0xFF))) = some (imgE, 0) := by
  decide +kernel

/-- 30 R109: from E to E12 MF.DELTA is the one request for modulator.attack 12. -/
theorem test_mfDelta : mfDelta 1 insE insE12 = [.mfBuildParam 1 0x0A 12] := by decide +kernel

/-- 60 R271: STATUS of a malformed frame. -/
theorem test_status : (answerTo { opc := 0x3F }).map Response.status = [0x02] := by decide +kernel

/-! ### Witnesses: operands and a state that meet the hypotheses of each statement -/

/-- A reset in the course of BP.ENC is presented. -/
theorem witness_ResetAbandonsTheRequest :
    ({ blank with events := [.resetDuring (some { opc := 0x10 }), .resetDuring none] } : State).events
      = .resetDuring (some { opc := 0x10 }) :: [.resetDuring none] := rfl

theorem witness_IdleMachineHoldsNothingNew : blank.events = [] := rfl

theorem witness_StepRunsTheDecodedInstruction :
    (given (.frame (frame3 0x02 []))).events = .arrive (.frame (frame3 0x02 [])) :: []
      ∧ decode (.frame (frame3 0x02 [])) = .ok (.frameReq 3 (0, 0)) := ⟨rfl, by decide +kernel⟩

theorem witness_EveryRequestGetsOneResponse :
    (given (.request { opc := 0xFF })).events = .arrive (.request { opc := 0xFF }) :: [] := rfl

theorem witness_ResponseDependsOnRequestAlone :
    (Instr.bpEnc [0x80]).isBlockOperation = true ∧ blank.cfg = (given (.request { opc := 0x10 })).cfg := ⟨rfl, rfl⟩

theorem witness_ResponsesComeOutInRequestOrder :
    ({ blank with events := [.arrive (.request { opc := 0x10 }), .arrive (.request { opc := 0x99 }),
        .resetDuring none] } : State).events
      = [({ opc := 0x10 } : Request), { opc := 0x99 }].map (fun r => Event.arrive (.request r)) ++ [.resetDuring none]
    ∧ [({ opc := 0x10 } : Request), { opc := 0x99 }][1]? = some { opc := 0x99 } := ⟨rfl, rfl⟩

theorem witness_ConfigurationStaysFixed :
    step (given (.request { opc := 0x99 }))
      = .next { blank with responses := [.err (.illegalRequest .unknownOpcode)] } := rfl

/-- A state whose response port holds a response the rules allow, and the step it takes. -/
theorem witness_EveryStepKeepsResponsesLawful :
    ({ blank with responses := [.ok (.triple ⟨3, 0x0F, 0xC0⟩)] } : State).Inv
      ∧ step { blank with responses := [.ok (.triple ⟨3, 0x0F, 0xC0⟩)] }
          = .next { blank with responses := [.ok (.triple ⟨3, 0x0F, 0xC0⟩)] } := by
  refine ⟨?_, rfl⟩
  intro r hr
  cases List.mem_singleton.mp hr
  exact ⟨by decide, by decide⟩

theorem witness_UnknownOpcodeIsAnswered :
    (given (.request { opc := 0x41 })).events = .arrive (.request { opc := 0x41 }) :: []
      ∧ (0x41 : Byte) ∉ ([0x10, 0x11, 0x20, 0x21, 0x22, 0x30, 0x31, 0x32, 0x33, 0x3F, 0x40] : List Byte) :=
  ⟨rfl, by decide⟩

/-- A request with each code, its other operands all nonzero. -/
def fullRequest (opc : Byte) : Request :=
  { opc := opc, data := [0x80], slot := 3, fsel := 0x0A, value := 12, ins := insE }

theorem witness_OpcodeSelectsOperationAndOperands :
    ([0x10, 0x11, 0x20, 0x21, 0x22, 0x30, 0x31, 0x32, 0x33, 0x3F, 0x40] : List Byte).map (fun c => (fullRequest c).opc)
      = [0x10, 0x11, 0x20, 0x21, 0x22, 0x30, 0x31, 0x32, 0x33, 0x3F, 0x40] := by decide

/-- MAX_LEN 3: four bytes are too long, three are not. -/
theorem witness_OverlongOperandIsRefused :
    ({ blank with cfg := { Config.default with maxLen := some 3 } } : State).cfg.maxLen = some 3
      ∧ 3 < [(0 : Byte), 1, 2, 3].length
      ∧ ∀ n, ({ blank with cfg := { Config.default with maxLen := some 3 } } : State).cfg.maxLen = some n →
          [(0 : Byte), 1, 2].length ≤ n := by
  refine ⟨rfl, by decide, ?_⟩
  intro n h
  cases h
  decide

/-- Eight bytes: the last byte is a group of its own (g = 1, j = 7). -/
theorem witness_BpEncWritesHeadersAndBodies :
    blank.cfg.accepts (List.replicate 8 0x80) ∧ 7 * 1 < (List.replicate 8 (0x80 : Byte)).length
      ∧ (List.replicate 8 (0x80 : Byte))[7]? = some 0x80 := ⟨blank_accepts _, by decide, by decide⟩

/-- Ten bytes: the second group is a header and one body byte (g = 1, j = 0), the first ends at j = 6. -/
theorem witness_BpDecRebuildsEveryBodyByte :
    blank.cfg.accepts (List.replicate 10 0x7F) ∧ (0 : Nat) < 7 ∧ (List.replicate 10 (0x7F : Byte))[8 * 1]? = some 0x7F
      ∧ (List.replicate 10 (0x7F : Byte))[8 * 1 + 1 + 0]? = some 0x7F
      ∧ (6 : Nat) < 7 ∧ (List.replicate 10 (0x7F : Byte))[8 * 0 + 1 + 6]? = some 0x7F :=
  ⟨blank_accepts _, by decide, by decide, by decide, by decide, by decide⟩

theorem witness_BpEncIsSevenBitSafe : (0x40 : Byte) ∈ bpEnc [0x80] := by decide +kernel

/-- The conditions hold of an output of BP.ENC with a short last group. -/
theorem witness_CanonicalEncodingsAreCharacterised :
    [(0x40 : Byte), 0x00].length % 8 ≠ 1 ∧ (∀ b ∈ [(0x40 : Byte), 0x00], b.getLsbD 7 = false)
      ∧ [(0x40 : Byte), 0x00] = bpEnc [0x80] := ⟨by decide, by decide, by decide +kernel⟩

/-- A short last group whose absent header bits differ, and a whole one whose bit 7 differs. -/
theorem witness_BpDecIgnoresUnreadHeaderBits :
    (([] : Bytes).length % 8 = 0 ∧ [(0x01 : Byte)].length ≤ 7
      ∧ (∀ j, j < [(0x01 : Byte)].length → (0x7F : Byte).getLsbD (6 - j) = (0x40 : Byte).getLsbD (6 - j)))
    ∧ ((List.replicate 7 (0 : Byte)).length = 7
      ∧ ∀ j, j < (List.replicate 7 (0 : Byte)).length → (0x80 : Byte).getLsbD (6 - j) = (0x00 : Byte).getLsbD (6 - j)) := by
  refine ⟨⟨by decide, by decide, ?_⟩, by decide, ?_⟩ <;> decide

theorem witness_BitPackerRespectsConcatenation :
    (List.replicate 7 (0x80 : Byte)).length % 7 = 0 ∧ (List.replicate 8 (0x7F : Byte)).length % 8 = 0 := by decide

theorem witness_FirstFieldOutOfRangeIsReported : insBad.valid = false := by decide

theorem witness_RcEncPlacesEveryField : insE.valid = true := by decide

/-- Twelve bytes, and eleven and thirteen. -/
theorem witness_RcDecExtractsEveryField :
    blank.cfg.accepts imgE ∧ imgE.length = 12 ∧ (imgE.take 11).length ≠ 12 ∧ (imgE ++ [0]).length ≠ 12 :=
  ⟨blank_accepts _, by decide, by decide, by decide⟩

theorem witness_RcDecInvertsRcEnc : Instrument.zero.valid = true := by decide

/-- The top of a field's range, one above it, one below 0, and a selector that is in no row. -/
theorem witness_RcTripleFollowsTheTable :
    ((0 : Int) ≤ 63 ∧ (63 : Int) ≤ 63) ∧ ((63 : Int) < 64 ∧ (-1 : Int) < 0)
      ∧ (0x12 : Byte) ∉ ([0x00, 0x01, 0x02, 0x03, 0x13, 0x04, 0x14, 0x05, 0x15, 0x06, 0x16, 0x07, 0x17, 0x08, 0x18, 0x09,
          0x19, 0x0A, 0x1A, 0x0B, 0x1B, 0x0C, 0x1C, 0x0D, 0x1D, 0x0E, 0x1E] : List Byte) := by decide

/-- Each of the three ways a selector is illegal, alone. -/
theorem witness_IllegalSelectorIsRefused :
    ((0x23 : Byte) >>> 5 ≠ 0) ∧ ((0x0F : Byte) &&& 0x0F = 0x0F)
      ∧ (((0x12 : Byte) &&& 0x0F).toNat ≤ 2 ∧ (0x12 : Byte) &&& 0x10 ≠ 0) := by decide

theorem witness_TripleMatchesEncodeOfChangedInstrument :
    insE.valid = true ∧ InsField.ofFsel 0x1E = some (.waveform, .carrier) ∧ InsField.waveform.inRange 3 = true := by
  decide

theorem witness_TripleSetsItsFieldOnAnyImage :
    InsField.ofFsel 0x02 = some (.frequencyModulation, .modulator) ∧ InsField.frequencyModulation.inRange 0 = true := by
  decide

/-- Two fields of one byte, and one field twice. -/
theorem witness_TriplesOfDifferentFieldsCommute :
    rcTriple 0x0A 12 = .ok ⟨3, 0x0F, 0xC0⟩ ∧ rcTriple 0x0B 3 = .ok ⟨3, 0xF0, 0x03⟩ ∧ (0x0A : Byte) ≠ 0x0B
      ∧ rcTriple 0x0A 1 = .ok ⟨3, 0x0F, 0x10⟩ ∧ (12 : Int) ≠ 1 := by decide +kernel

theorem witness_BuildOfInstrumentFrames : insE.valid = true ∧ insBad.valid = false := by decide

theorem witness_BuildOfParameterFrames :
    legalFieldValue 0x1E 3 = true ∧ legalFieldValue 0x1E 4 = false ∧ legalFieldValue 0x0F 0 = false := by decide

/-- The last byte but one of a frame is inside, and so is byte 1. -/
theorem witness_OnlyFrameEndsHaveTheHighBit :
    (0x01 : Byte).toNat ≤ 3 ∧ 1 + 2 ≤ (frame 0x01 3 [3, 0x0F, 0xC0]).length
      ∧ (frame 0x01 3 [3, 0x0F, 0xC0])[1]? = some 0x7D ∧ 9 + 2 ≤ (frame 0x01 3 [3, 0x0F, 0xC0]).length
      ∧ (frame 0x01 3 [3, 0x0F, 0xC0])[9]? = some 0x40 := by decide +kernel

/-- Every branch of the chain has a frame: six bytes, a bad byte in each place, and each of the four commands. -/
theorem witness_ParseReportsFirstFailingCheck :
    blank.cfg.accepts [] ∧
    [mfParse (List.replicate 6 0xF0), mfParse ((frame3 0x02 []).set 0 0xF1), mfParse ((frame3 0x02 []).set 1 0x7E),
      mfParse ((frame3 0x02 []).set 6 0x00), mfParse ((frame3 0x02 []).set 2 0x04), mfParse ((frame3 0x02 []).set 5 0x10),
      mfParse (frame3 0x01 [0x00, 0x00, 0x00, 0x80]), mfParse (frame3 0x01 [0x00, 0x00, 0x00]),
      mfParse (frame3 0x00 packedE), mfParse (frame3 0x01 [0x10, 0x03, 0x0F, 0x40]), mfParse (frame3 0x02 []),
      mfParse (frame3 0x03 packedE)]
    = [.error (.malformedFrame .tooShort 6), .error (.malformedFrame .badSOX 0), .error (.malformedFrame .badVendor 1),
      .error (.malformedFrame .badEOX 6), .error (.malformedFrame .unknownCommand 2), .error (.malformedFrame .badSlot 5),
      .error (.malformedFrame .payloadHighBit 9), .error (.malformedFrame .payloadLength 3),
      .ok (.dump 3 (0, 0) vecE), .ok (.paramUpdate 3 (0, 0) ⟨3, 0x0F, 0xC0⟩), .ok (.request 3 (0, 0)),
      .ok (.response 3 (0, 0) vecE insE)] := ⟨blank_accepts _, by decide +kernel⟩

theorem witness_ParseIsTotal : blank.cfg.accepts [0xF0] := blank_accepts _

theorem witness_ParseInvertsEveryBuild : insE.valid = true ∧ legalFieldValue 0x0A 12 = true := by decide

theorem witness_DeltaReachesTheNewInstrument : insE.valid = true ∧ insE12.valid = true := by decide

/-- Between an instrument and itself no field differs. -/
theorem witness_DeltaReachesTheNewInstrument_empty : mfDelta 1 insE insE = [] := by decide +kernel

/-- Version 0, one melodic bank: the 19 header bytes and 128 records of 62 bytes. -/
def oneBank : Bytes := magic ++ [0, 0, 0, 1, 0, 0, 0, 0] ++ List.replicate 7936 0

theorem length_oneBank : oneBank.length = 7955 := by
  simp only [oneBank, List.length_append, List.length_replicate, magic, List.length_cons, List.length_nil]

/-- A bad magic, 18 bytes, one byte too few for the bank, and a file that is complete. -/
theorem witness_BankBoundsComeFirst :
    blank.cfg.accepts oneBank
      ∧ ((header2 0).set 10 0x20).take 11 ≠ [0x57, 0x4F, 0x50, 0x4C, 0x33, 0x2D, 0x42, 0x41, 0x4E, 0x4B, 0x00]
      ∧ ((header2 0).take 18).length < 19 ∧ (oneBank.take 7954).length < 7955 ∧ ¬ oneBank.length < 7955 := by
  refine ⟨blank_accepts _, by decide, by decide, ?_, ?_⟩
  · rw [List.length_take, length_oneBank]; decide
  · rw [length_oneBank]; decide

theorem witness_BankHoldsTheKeptSlots :
    blank.cfg.accepts oneBank
      ∧ oneBank.take 11 = [0x57, 0x4F, 0x50, 0x4C, 0x33, 0x2D, 0x42, 0x41, 0x4E, 0x4B, 0x00] ∧ 19 ≤ oneBank.length
      ∧ 19 + 1 * 128 * 62 ≤ oneBank.length := by
  refine ⟨blank_accepts _, rfl, ?_, ?_⟩
  · rw [length_oneBank]; decide
  · rw [length_oneBank]

/-- 0 and 10: the one index whose first digit is 0, and a number of two digits. -/
theorem witness_LabelIndexIsDecimal : (dec 0).head? = some 0x30 ∧ dec 10 = [0x31, 0x30] := by decide +kernel

theorem witness_LabelsOfDifferentBanksDiffer : (1 : Nat) ≠ 11 := by decide

theorem witness_CheckedReadStaysInside : 1 + 2 ≤ [(1 : Byte), 2, 3].length ∧ [(1 : Byte), 2, 3].length < 2 + 2 := by
  decide

theorem witness_BankIgnoresUnusedBytes : bfParse Config.default (header2 0) = .ok [] := by decide +kernel

/-- Each row of the table has a frame; the offsets of the updates are 11 and 12. -/
theorem witness_DeviceFollowsTheFrameTable :
    (given (.frame (frame3 0x02 []))).events = .arrive (.frame (frame3 0x02 [])) :: []
      ∧ mfParse (frame3 0x00 packedE) = .ok (.dump 3 (0, 0) vecE)
      ∧ mfParse (frame3 0x01 [0x00, 0x0B, 0x00, 0x00]) = .ok (.paramUpdate 3 (0, 0) ⟨11, 0, 0⟩)
      ∧ mfParse (frame3 0x01 [0x00, 0x0C, 0x00, 0x00]) = .ok (.paramUpdate 3 (0, 0) ⟨12, 0, 0⟩)
      ∧ mfParse (frame3 0x02 []) = .ok (.request 3 (0, 0))
      ∧ mfParse (frame3 0x03 packedE) = .ok (.response 3 (0, 0) vecE insE)
      ∧ mfParse [] = .error (.malformedFrame .tooShort 0) := by
  refine ⟨rfl, ?_, ?_, ?_, ?_, ?_, ?_⟩ <;> decide +kernel

theorem witness_ParameterFrameUpdatesOneByte :
    (⟨11, 0, 0⟩ : Triple).offset.toNat = (11 : Fin 12).val ∧ (⟨0, 0, 0⟩ : Triple).offset.toNat = (0 : Fin 12).val := by
  decide

theorem witness_StrayParameterFrameStaysInItsSlot : 11 < (⟨12, 0, 0⟩ : Triple).offset.toNat := by decide

theorem witness_MalformedFrameLeavesTheDevice :
    (given (.frame [0xF0])).events = .arrive (.frame [0xF0]) :: []
      ∧ mfParse [0xF0] = .error (.malformedFrame .tooShort 1) := ⟨rfl, by decide +kernel⟩

theorem witness_BuiltUpdateSetsTheDeviceField :
    InsField.ofFsel 0x09 = some (.outputLevel, .modulator) ∧ InsField.outputLevel.inRange 63 = true := by decide

end Sys2Proof.Tests
end

/-! ### The statements about the state (10_state.md): reset, a step, the independence of responses, bank labels -/

namespace Sys2Proof.Machine

/-! Reset (R47). -/

@[simp] theorem State.reset_events : State.reset.events = [] := rfl
@[simp] theorem State.reset_responses : State.reset.responses = [] := rfl
@[simp] theorem State.reset_replies : State.reset.replies = [] := rfl

@[simp] theorem State.getElem_devSlot_reset (k : Fin 16) (j : Nat) (hj : j < 12) :
    (State.reset.devSlot k)[j] = Config.devReset k.val j := by
  simp [State.devSlot, State.reset]

/-- Settles O1, field by field. -/
theorem resetLeavesPortsEmpty : Obligations.ResetLeavesPortsEmpty :=
  ⟨State.reset_events, State.reset_responses, State.reset_replies,
    fun k j => State.getElem_devSlot_reset k j.val j.isLt⟩

/-- Settles O10: the response port is empty after reset. -/
theorem responsesAreLawfulAtReset : Obligations.ResponsesAreLawfulAtReset := by
  intro r hr
  rw [State.reset_responses] at hr
  exact absurd hr List.not_mem_nil

/-- Settles O4: what is fetched is the decoded instruction, and a step runs what is fetched. -/
theorem stepRunsTheDecodedInstruction : Obligations.StepRunsTheDecodedInstruction :=
  fun s _ _ _ hev hdec => step_of_run (s.fetch_ok hev hdec)

/-! What an operation of the block answers (R30). The result of an operation is written down as a function of the
configuration and the instruction, which have no state in them, and `exec` is shown to answer with it. -/

/-- R30: the result of an operation of the block, none for a frame the device receives. -/
def operationResult (cfg : Config) : Instr → Option (Except ErrorInfo Value)
  | .bpEnc data => some do
    checkLength cfg data
    return .bytes (bpEnc data)
  | .bpDec data => some do
    checkLength cfg data
    return .bytes (bpDec data)
  | .rcEnc ins => some do
    return .image (← rcEnc ins)
  | .rcDec img => some do
    checkLength cfg img
    match imageOfBytes img with
    | none => .error (.illegalRequest .badImageLength)
    | some m => return .instrument (rcDec m)
  | .rcTriple fsel value => some do
    return .triple (← rcTriple fsel value)
  | .mfBuildDump slot ins => some do
    return .bytes (frame 0x00 slot (← rcEnc ins).toList)
  | .mfBuildParam slot fsel value => some do
    return .bytes (frame 0x01 slot (tripleBytes (← rcTriple fsel value)))
  | .mfBuildReq slot => some (.ok (.bytes (frame 0x02 slot [])))
  | .mfBuildResp slot ins => some do
    return .bytes (frame 0x03 slot (← rcEnc ins).toList)
  | .mfParse data => some do
    checkLength cfg data
    return .parsed (← mfParse data)
  | .bfParse file => some do
    checkLength cfg file
    return .bank (← bfParse cfg file)
  | .frameDump _ _ _ => none
  | .frameParam _ _ _ => none
  | .frameReq _ _ => none
  | .frameResp _ _ _ => none

theorem isSome_operationResult (cfg : Config) (i : Instr) :
    (operationResult cfg i).isSome = i.isBlockOperation := by
  cases i <;> rfl

/-- An operation answers with its result and does nothing else. -/
theorem exec_of_operationResult {i : Instr} {s : State} {result : Except ErrorInfo Value}
    (h : operationResult s.cfg i = some result) : exec i s = .next (s.answer result) := by
  cases i <;> cases h <;> rfl

/-- An answer gives one response, whatever the state is. -/
theorem exists_answer_eq_respond (result : Except ErrorInfo Value) :
    ∃ resp, ∀ s : State, s.answer result = s.respond resp := by
  cases result with
  | ok v => exact ⟨.ok v, fun s => s.answer_ok v⟩
  | error e => exact ⟨.err e, fun s => s.answer_error e⟩

/-- R30: under one configuration an operation of the block gives the same one response in every state. -/
theorem exists_exec_eq_respond {i : Instr} (hi : i.isBlockOperation = true) (cfg : Config) :
    ∃ resp, ∀ s : State, s.cfg = cfg → exec i s = .next (s.respond resp) := by
  obtain ⟨result, hresult⟩ := Option.isSome_iff_exists.mp ((isSome_operationResult cfg i).trans hi)
  obtain ⟨resp, hresp⟩ := exists_answer_eq_respond result
  refine ⟨resp, fun s hs => ?_⟩
  subst hs
  rw [exec_of_operationResult hresult, hresp]

/-- Settles O6: the response is chosen from the configuration alone, before either state is looked at. -/
theorem responseDependsOnRequestAlone : Obligations.ResponseDependsOnRequestAlone := by
  intro i hi s t hcfg
  obtain ⟨resp, hresp⟩ := exists_exec_eq_respond hi s.cfg
  exact ⟨resp, hresp s rfl, hresp t hcfg.symm⟩

/-! The decimal digits of a label (R236): each is an ASCII digit, so that the `]` after them ends them, and read as a decimal
number they are the index. -/

/-- The number a byte string reads as in decimal. -/
def decimalValue (b : Bytes) : Nat := b.foldl (fun n d => 10 * n + (d.toNat - 0x30)) 0

@[simp] theorem decimalValue_append_singleton (b : Bytes) (d : Byte) :
    decimalValue (b ++ [d]) = 10 * decimalValue b + (d.toNat - 0x30) := by
  simp [decimalValue]

theorem toNat_asciiDigit {n : Nat} (h : n < 10) : (BitVec.ofNat 8 (0x30 + n)).toNat = 0x30 + n := by
  rw [BitVec.toNat_ofNat, Nat.mod_eq_of_lt (by omega)]

theorem decDigits_range {fuel n : Nat} {d : Byte} (hd : d ∈ decDigits fuel n) : 0x30 ≤ d.toNat ∧ d.toNat ≤ 0x39 := by
  induction fuel generalizing n with
  | zero => exact absurd hd List.not_mem_nil
  | succ fuel ih =>
    rw [decDigits] at hd
    split at hd
    · next hn =>
      rw [List.mem_singleton.mp hd, toNat_asciiDigit hn]
      omega
    · rcases List.mem_append.mp hd with hd | hd
      · exact ih hd
      · rw [List.mem_singleton.mp hd, toNat_asciiDigit (Nat.mod_lt n (by decide))]
        omega

theorem decimalValue_decDigits {fuel n : Nat} (h : n < 10 ^ fuel) : decimalValue (decDigits fuel n) = n := by
  induction fuel generalizing n with
  | zero =>
    have hn : n = 0 := by omega
    rw [hn]; rfl
  | succ fuel ih =>
    rw [decDigits]
    split
    · next hn =>
      rw [← List.nil_append [_], decimalValue_append_singleton, toNat_asciiDigit hn]
      simp [decimalValue]
    · have hq : n / 10 < 10 ^ fuel := Nat.div_lt_of_lt_mul (by rwa [pow_succ'] at h)
      rw [decimalValue_append_singleton, ih hq, toNat_asciiDigit (Nat.mod_lt n (by decide))]
      omega

theorem decimalValue_dec (i : Nat) : decimalValue (dec i) = i :=
  decimalValue_decDigits (i.lt_succ_self.trans (Nat.lt_pow_self (by decide)))

theorem dec_injective : Function.Injective dec :=
  Function.LeftInverse.injective decimalValue_dec

theorem ne_closingBracket_of_mem_dec {i : Nat} {d : Byte} (hd : d ∈ dec i) : d ≠ 0x5D := by
  rintro rfl
  exact absurd (decDigits_range hd).2 (by decide)

/-- A label without its first byte reads back its index's digits up to the first `]`, whatever the name holds. -/
theorem takeWhile_tail_labelOf (i : Nat) (name : Bytes) :
    (labelOf i name).tail.takeWhile (· ≠ 0x5D) = dec i := by
  have hdigits : ∀ d ∈ dec i, decide (d ≠ 0x5D) = true :=
    fun d hd => decide_eq_true (ne_closingBracket_of_mem_dec hd)
  calc (labelOf i name).tail.takeWhile (· ≠ 0x5D)
    _ = (dec i ++ 0x5D :: 0x20 :: (if name = [] then unnamedBank else name)).takeWhile (· ≠ 0x5D) := by
      simp [labelOf]
    _ = dec i := by
      rw [List.takeWhile_append_of_pos hdigits, List.takeWhile_cons_of_neg (by decide), List.append_nil]

/-- Settles O46: equal labels hold the same digits up to the first `]`, and `dec` is injective. -/
theorem labelsOfDifferentBanksDiffer : Obligations.LabelsOfDifferentBanksDiffer := by
  intro i j a b hij hlabel
  have hdec : dec i = dec j := by
    rw [← takeWhile_tail_labelOf i a, hlabel, takeWhile_tail_labelOf]
  exact hij (dec_injective hdec)

end Sys2Proof.Machine

/-! ### The statements about memory (20_memory.md): the checked read, the order of responses -/

namespace Sys2Proof.Machine

/-- Settles O43: inside the buffer the read answers a slice, whose bytes are those at the offset. -/
theorem checkedReadStaysInside : Obligations.CheckedReadStaysInside := by
  intro buf off n
  constructor
  · intro hin
    obtain ⟨hread, hlength⟩ := memRead_eq_some hin
    refine ⟨slice buf off (off + n), hread, hlength, fun k hk => ?_⟩
    rw [getElem?_slice, if_pos (by omega)]
  · intro hout
    exact memRead_eq_none (by omega)

/-! What a step does with a request, and a run with a list of them (R70). The response is chosen from the configuration
and the request before the state is looked at, so it is the same in the middle of a run and alone. -/

/-- Under the configuration `cfg` a step that finds a request presented gives it the response `answer` says, and changes
nothing else. -/
def AnswersRequests (cfg : Config) (answer : Request → Response) : Prop :=
  ∀ (r : Request) (s : State) (rest : List Event), s.cfg = cfg → s.events = .arrive (.request r) :: rest →
    step s = .next (({ s with events := rest } : State).respond (answer r))

/-- R30, R81: a request gets one response, chosen by the configuration alone, whether it decodes or not. -/
theorem exists_step_eq_respond (cfg : Config) (r : Request) :
    ∃ resp, ∀ (s : State) (rest : List Event), s.cfg = cfg → s.events = .arrive (.request r) :: rest →
      step s = .next (({ s with events := rest } : State).respond resp) := by
  cases hdec : decode (.request r) with
  | error e => exact ⟨.err e, fun s _ _ hev => step_of_done (s.fetch_error hev hdec)⟩
  | ok i =>
    obtain ⟨resp, hresp⟩ := exists_exec_eq_respond (isBlockOperation_of_decodeRequest hdec) cfg
    exact ⟨resp, fun s rest hcfg hev =>
      (step_of_run (s.fetch_ok hev hdec)).trans (hresp { s with events := rest } hcfg)⟩

theorem exists_answersRequests (cfg : Config) : ∃ answer, AnswersRequests cfg answer :=
  Classical.skolem.mp (exists_step_eq_respond cfg)

/-- A run whose first step goes on is the run from where it went. -/
theorem core_run_succ {M : Host.Core} {s s' : M.State} (h : M.step s = .next s') (k : Nat) :
    M.run (k + 1) s = M.run k s' := by
  simp only [Host.Core.run, h]

/-- R70: a run over the requests presented first appends their responses in request order, and changes nothing else. -/
theorem core_run_requests {cfg : Config} {answer : Request → Response} (hanswer : AnswersRequests cfg answer)
    {rs : List Request} {s : State} {rest : List Event} (hcfg : s.cfg = cfg)
    (hev : s.events = rs.map (fun r => .arrive (.request r)) ++ rest) :
    Sys2Proof.core.run rs.length s
      = .next { s with events := rest, responses := s.responses ++ rs.map answer } := by
  induction rs generalizing s with
  | nil =>
    obtain rfl : s.events = rest := hev
    rw [List.map_nil, List.append_nil]
    rfl
  | cons r rs ih =>
    have hstep := hanswer r s _ hcfg hev
    calc Sys2Proof.core.run (rs.length + 1) s
      _ = Sys2Proof.core.run rs.length _ := core_run_succ (M := Sys2Proof.core) hstep rs.length
      _ = .next { s with events := rest, responses := (s.responses ++ [answer r]) ++ rs.map answer } := ih hcfg rfl
      _ = .next { s with events := rest, responses := s.responses ++ (r :: rs).map answer } := by
        rw [List.append_assoc, List.map_cons, List.singleton_append]

/-- Settles O7: the responses are those that one choice, the same for every state, gives the requests. -/
theorem responsesComeOutInRequestOrder : Obligations.ResponsesComeOutInRequestOrder := by
  intro rs s rest hev
  obtain ⟨answer, hanswer⟩ := exists_answersRequests s.cfg
  refine ⟨rs.map answer, List.length_map .., core_run_requests hanswer rfl hev, ?_⟩
  intro k r resp hr hresp
  obtain rfl : answer r = resp := by simpa [hr] using hresp
  exact hanswer r { s with events := [.arrive (.request r)], responses := [] } [] rfl rfl

end Sys2Proof.Machine

/-! ### The statements about encodings (30_encoding.md): instructions, the encoding of bytes, operands, MF.DELTA -/

namespace Sys2Proof.Machine

/-! The BitPacker (R93, R107, R125): the header of a group bit by bit, a group decoded from its encoding, and a sequence
encoded group by group. -/

/-- Bit 7 of byte `i` of a sequence, false where there is none. -/
def highBit (data : Bytes) (i : Nat) : Bool := ((data[i]?).map fun b => b.getLsbD 7).getD false

theorem getLsbD_boolByte_shiftLeft (c : Bool) {j : Nat} (hj : j < 8) (k : Nat) :
    (boolByte c <<< j).getLsbD k = (decide (k = j) && c) := by
  cases c with
  | false => simp [boolByte]
  | true =>
    rw [Bool.eq_iff_iff]
    simp [boolByte]
    omega

theorem highBit_append_singleton (grp : Bytes) (b : Byte) (i : Nat) :
    highBit (grp ++ [b]) i = (highBit grp i || (decide (i = grp.length) && b.getLsbD 7)) := by
  rcases Nat.lt_trichotomy i grp.length with h | h | h
  · simp [highBit, List.getElem?_append_left h, h.ne]
  · subst h; simp [highBit]
  · simp [highBit, h, h.le, h.ne']

/-- A header takes in the bytes of its group one at a time. -/
theorem groupHeader_append_singleton (grp : Bytes) (b : Byte) :
    groupHeader (grp ++ [b]) = groupHeader grp ||| (boolByte (b.getLsbD 7) <<< (6 - grp.length)) := by
  simp [groupHeader, List.zipIdx_append]

/-- R93: bit `6 - i` of a header is bit 7 of byte `i` of its group, and bit 7 is 0. -/
theorem getLsbD_groupHeader {grp : Bytes} (h : grp.length ≤ 7) (k : Nat) :
    (groupHeader grp).getLsbD k = (decide (k ≤ 6) && highBit grp (6 - k)) := by
  induction grp using List.reverseRecOn with
  | nil => simp [groupHeader, highBit]
  | append_singleton grp b ih =>
    have hlen : grp.length < 7 := by simpa using h
    rw [groupHeader_append_singleton, BitVec.getLsbD_or, ih hlen.le, getLsbD_boolByte_shiftLeft _ (by omega),
      highBit_append_singleton, Bool.and_or_distrib_left, ← Bool.and_assoc, ← Bool.decide_and]
    congr 3
    exact propext (by omega)

theorem low7_or_highBit : ∀ b : Byte, (b &&& 0x7F) ||| (boolByte (b.getLsbD 7) <<< 7) = b := by decide

theorem getLsbD_seven_low7 (b : Byte) : (b &&& 0x7F).getLsbD 7 = false := by simp

/-- R125 for one group. -/
theorem decodeGroup_encodeGroup {grp : Bytes} (h : grp.length ≤ 7) : decodeGroup (encodeGroup grp) = grp := by
  refine List.ext_getElem (by simp) fun i h₁ h₂ => ?_
  have hbit : (groupHeader grp).getLsbD (6 - i) = grp[i].getLsbD 7 := by
    rw [getLsbD_groupHeader h, show 6 - (6 - i) = i by omega]
    simp [highBit, h₂]
  simp only [decodeGroup, encodeGroup, List.getElem_map, List.getElem_zipIdx, Nat.zero_add, hbit]
  exact low7_or_highBit grp[i]

theorem getLsbD_seven_of_mem_encodeGroup {grp : Bytes} (h : grp.length ≤ 7) {b : Byte} (hb : b ∈ encodeGroup grp) :
    b.getLsbD 7 = false := by
  rcases List.mem_cons.mp hb with rfl | hbody
  · rw [getLsbD_groupHeader h]; rfl
  · obtain ⟨a, _, rfl⟩ := List.mem_map.mp hbody
    exact getLsbD_seven_low7 a

/-- The encoding of a nonempty sequence is that of its first group, and then that of the rest. -/
theorem bpEnc_eq_append {data : Bytes} (h : 0 < data.length) :
    bpEnc data = encodeGroup (data.take 7) ++ bpEnc (data.drop 7) := by
  rcases Nat.lt_or_ge data.length 7 with hlt | hge
  · rw [List.take_of_length_le hlt.le, List.drop_eq_nil_of_le hlt.le, bpEnc_nil, List.append_nil,
      bpEnc_short data h hlt.le]
  · conv_lhs => rw [← List.take_append_drop 7 data]
    exact bpEnc_group_append _ _ (by simpa using hge)

/-- R125. -/
theorem bpDec_bpEnc (data : Bytes) : bpDec (bpEnc data) = data := by
  induction data using bytes_group_induction 7 (by decide) with
  | empty => simp
  | short grp hpos hlt =>
    rw [bpEnc_short grp hpos hlt.le, bpDec_short _ (by simp) (by simp; omega), decodeGroup_encodeGroup hlt.le]
  | whole grp rest hlen ih =>
    rw [bpEnc_group_append grp rest hlen, bpDec_group_append _ _ (by simp [hlen]), decodeGroup_encodeGroup hlen.le, ih]

/-- R122. -/
theorem getLsbD_seven_of_mem_bpEnc {data : Bytes} {b : Byte} (hb : b ∈ bpEnc data) : b.getLsbD 7 = false := by
  induction data using bytes_group_induction 7 (by decide) with
  | empty => simp at hb
  | short grp hpos hlt =>
    rw [bpEnc_short grp hpos hlt.le] at hb
    exact getLsbD_seven_of_mem_encodeGroup hlt.le hb
  | whole grp rest hlen ih =>
    rw [bpEnc_group_append grp rest hlen] at hb
    rcases List.mem_append.mp hb with hgrp | hrest
    · exact getLsbD_seven_of_mem_encodeGroup hlen.le hgrp
    · exact ih hrest

/-- R123. -/
theorem length_bpEnc (data : Bytes) : (bpEnc data).length = data.length + (data.length + 6) / 7 := by
  induction data using bytes_group_induction 7 (by decide) with
  | empty => simp
  | short grp hpos hlt =>
    rw [bpEnc_short grp hpos hlt.le, length_encodeGroup]
    omega
  | whole grp rest hlen ih =>
    rw [bpEnc_group_append grp rest hlen, List.length_append, List.length_append, length_encodeGroup, ih]
    omega

/-- R128: from the start of group `g` on, an encoding is the encoding of the bytes from there on. -/
theorem drop_bpEnc {data : Bytes} {g : Nat} (h : 7 * g ≤ data.length) :
    (bpEnc data).drop (8 * g) = bpEnc (data.drop (7 * g)) := by
  induction g generalizing data with
  | zero => simp
  | succ g ih =>
    have hfirst : (encodeGroup (data.take 7)).length = 8 := by simp; omega
    rw [bpEnc_eq_append (by omega), show 8 * (g + 1) = (encodeGroup (data.take 7)).length + 8 * g by omega,
      List.drop_length_add_append, ih (by simp; omega), List.drop_drop, show 7 + 7 * g = 7 * (g + 1) by omega]

/-- R93, R107: byte `k` of the encoding's group `g` is byte `k` of what input bytes `7g` to `7g + 6` encode to. -/
theorem getElem?_bpEnc {data : Bytes} {g k : Nat} (h : 7 * g + k ≤ data.length) (hpos : 7 * g < data.length)
    (hk : k ≤ 7) : (bpEnc data)[8 * g + k]? = (encodeGroup ((data.drop (7 * g)).take 7))[k]? := by
  rw [← List.getElem?_drop, drop_bpEnc hpos.le, bpEnc_eq_append (by simpa using hpos),
    List.getElem?_append_left (by simp; omega)]

/-- Settles O17: the groups of the output are the encoded groups of the input. -/
theorem bpEncWritesHeadersAndBodies : Obligations.BpEncWritesHeadersAndBodies := by
  intro s data hacc
  have hresult : operationResult s.cfg (.bpEnc data) = some (.ok (.bytes (bpEnc data))) := by
    simp only [operationResult, checkLength_of_accepts hacc]; rfl
  refine ⟨bpEnc data, exec_of_operationResult hresult, length_bpEnc data, ?_, ?_⟩
  · intro g hg
    have hshort : ((data.drop (7 * g)).take 7).length ≤ 7 := by simp
    refine ⟨groupHeader ((data.drop (7 * g)).take 7), ?_, ?_, ?_⟩
    · exact getElem?_bpEnc (k := 0) hg.le hg (by decide)
    · rw [getLsbD_groupHeader hshort]; rfl
    · intro i hi
      rw [getLsbD_groupHeader hshort, show 6 - (6 - i) = i by omega]
      simp [highBit, hi]
  · intro j b hb
    obtain ⟨hj, rfl⟩ := List.getElem?_eq_some_iff.mp hb
    have hmod : j % 7 < 7 := Nat.mod_lt j (by decide)
    have hdiv : 7 * (j / 7) + j % 7 = j := Nat.div_add_mod j 7
    rw [show 8 * (j / 7) + 1 + j % 7 = 8 * (j / 7) + (j % 7 + 1) by omega,
      getElem?_bpEnc (by omega) (by omega) (by omega)]
    simp [encodeGroup, hmod, hdiv, hj]

/-! The operation codes (R80, R81). -/

/-- R80: the operation codes of the table. -/
def operationCodes : List Byte := [0x10, 0x11, 0x20, 0x21, 0x22, 0x30, 0x31, 0x32, 0x33, 0x3F, 0x40]

/-- A request that decodes carries the code its operation's encoding carries. -/
theorem opc_mem_of_decodeRequest {r : Request} {i : Instr} (h : decodeRequest r = .ok i) : r.opc ∈ operationCodes := by
  have hcodes : ∀ opc : Byte, opc.toNat ∈ operationCodes.map BitVec.toNat → opc ∈ operationCodes := by decide
  unfold decodeRequest at h
  split at h
  case h_12 => cases h
  all_goals
    next hopc => exact hcodes r.opc (by rw [hopc]; decide)

/-- R81: the only error of a request's decoding. -/
theorem decodeRequest_error {r : Request} {e : ErrorInfo} (h : decodeRequest r = .error e) :
    e = .illegalRequest .unknownOpcode := by
  unfold decodeRequest at h
  split at h <;> cases h
  rfl

theorem decodeRequest_of_opc_notMem {r : Request} (h : r.opc ∉ operationCodes) :
    decodeRequest r = .error (.illegalRequest .unknownOpcode) := by
  cases hdec : decodeRequest r with
  | ok i => exact absurd (opc_mem_of_decodeRequest hdec) h
  | error e => rw [decodeRequest_error hdec]

/-- Settles O15: a request whose code is not in the table decodes to the error, which is its answer. -/
theorem unknownOpcodeIsAnswered : Obligations.UnknownOpcodeIsAnswered :=
  fun s _ _ hev hopc => step_of_done (s.fetch_error hev (decodeRequest_of_opc_notMem hopc))

/-- Settles O56: the decoder's table row by row, each code put in the place of the request's. -/
theorem opcodeSelectsOperationAndOperands : Obligations.OpcodeSelectsOperationAndOperands := by
  rintro ⟨opc, data, slot, fsel, value, ins⟩
  refine ⟨?bpEnc, ?bpDec, ?rcEnc, ?rcDec, ?rcTriple, ?mfBuildDump, ?mfBuildParam, ?mfBuildReq, ?mfBuildResp,
    ?mfParse, ?bfParse⟩
  all_goals rintro rfl; rfl

/-! Frames (R87, R88, R190): MF.PARSE of a frame whose payload has its command's length. -/

theorem toNat_slotByte (slot : Fin 16) : (BitVec.ofNat 8 slot.val).toNat = slot.val := by
  rw [BitVec.toNat_ofNat, Nat.mod_eq_of_lt (by omega)]

/-- The bytes MF.PARSE takes for the encoded payload are the encoded payload. -/
theorem slice_frameBytes (cmd : Byte) (reserved : Byte × Byte) (slot : Fin 16) (payload : Bytes) :
    slice (frameBytes cmd reserved slot payload) 6 ((frameBytes cmd reserved slot payload).length - 1)
      = bpEnc payload := by
  rw [length_frameBytes]
  simp [slice, frameBytes]

theorem findIdx?_highBit_bpEnc (payload : Bytes) : (bpEnc payload).findIdx? (fun b => b.getLsbD 7) = none := by
  rw [List.findIdx?_eq_none_iff]
  exact fun b hb => getLsbD_seven_of_mem_bpEnc hb

/-- R190, R191: a frame with a payload of its command's length passes every check, whatever its reserved bytes. -/
theorem mfParse_frameBytes {cmd : Byte} {reserved : Byte × Byte} {slot : Fin 16} {payload : Bytes} {p : ParsedFrame}
    (hcmd : cmd.toNat ≤ 3) (hlen : (bpEnc payload).length = encodedLength cmd)
    (hp : parsedResult cmd slot reserved payload = some p) :
    mfParse (frameBytes cmd reserved slot payload) = .ok p := by
  have hlong : ¬ (frameBytes cmd reserved slot payload).length < 7 := by simp
  have hsox : (frameBytes cmd reserved slot payload)[0] = sox := rfl
  have hvendor : (frameBytes cmd reserved slot payload)[1] = vendor := rfl
  have hcmd2 : (frameBytes cmd reserved slot payload)[2] = cmd := rfl
  have hreserved : ((frameBytes cmd reserved slot payload)[3], (frameBytes cmd reserved slot payload)[4])
      = reserved := rfl
  have hslot : (frameBytes cmd reserved slot payload)[5] = BitVec.ofNat 8 slot.val := rfl
  have heox : (frameBytes cmd reserved slot payload)[(frameBytes cmd reserved slot payload).length - 1] = eox := by
    simp [frameBytes]
  unfold mfParse
  rw [dif_neg hlong, if_neg (not_not_intro hsox), if_neg (not_not_intro hvendor), if_neg (not_not_intro heox),
    if_neg (by rw [hcmd2]; omega), dif_neg (by rw [hslot, toNat_slotByte]; omega)]
  have hslotEq : (⟨(BitVec.ofNat 8 slot.val).toNat, by rw [toNat_slotByte]; exact slot.isLt⟩ : Fin 16) = slot :=
    Fin.ext (toNat_slotByte slot)
  simp only [slice_frameBytes, findIdx?_highBit_bpEnc, hcmd2, hreserved, hslot, hlen, bpDec_bpEnc, hslotEq, hp]
  exact if_neg (not_not_intro rfl)

/-- R288: the instruction that the receipt of a parsed frame is. -/
def frameInstr : ParsedFrame → Instr
  | .dump slot reserved image => .frameDump slot reserved image
  | .paramUpdate slot reserved triple => .frameParam slot reserved triple
  | .request slot reserved => .frameReq slot reserved
  | .response slot reserved image _ => .frameResp slot reserved image

theorem decodeFrame_of_mfParse {b : Bytes} {p : ParsedFrame} (h : mfParse b = .ok p) :
    decodeFrame b = .ok (frameInstr p) := by
  unfold decodeFrame
  rw [h]
  cases p <;> rfl

theorem length_bpEnc_image (m : Image) : (bpEnc m.toList).length = 14 := by
  rw [length_bpEnc, Vector.length_toList]


theorem length_bpEnc_triple (t : Triple) : (bpEnc (tripleBytes t)).length = 4 := by
  rw [length_bpEnc]; simp [tripleBytes]

/-- A frame a build writes is received as the instruction of what its payload parses to. -/
theorem decode_frameBytes {cmd : Byte} {reserved : Byte × Byte} {slot : Fin 16} {payload : Bytes} {p : ParsedFrame}
    (hcmd : cmd.toNat ≤ 3) (hlen : (bpEnc payload).length = encodedLength cmd)
    (hp : parsedResult cmd slot reserved payload = some p) :
    decode (.frame (frameBytes cmd reserved slot payload)) = .ok (frameInstr p) :=
  decodeFrame_of_mfParse (mfParse_frameBytes hcmd hlen hp)

/-- Settles O13: a request reads its operation and operands back from its record, a frame from its parse. -/
theorem decodeOfEncodeIsTheInstruction : Obligations.DecodeOfEncodeIsTheInstruction := by
  intro i
  cases i with
  | bpEnc data => rfl
  | bpDec data => rfl
  | rcEnc ins => rfl
  | rcDec img => rfl
  | rcTriple fsel value => rfl
  | mfBuildDump slot ins => rfl
  | mfBuildParam slot fsel value => rfl
  | mfBuildReq slot => rfl
  | mfBuildResp slot ins => rfl
  | mfParse frame => rfl
  | bfParse file => rfl
  | frameDump slot reserved image =>
    exact decode_frameBytes (p := .dump slot reserved image) (by decide) (length_bpEnc_image image)
      (by rw [parsedResult_dump, imageOfBytes_toList]; rfl)
  | frameParam slot reserved triple =>
    exact decode_frameBytes (p := .paramUpdate slot reserved triple) (by decide) (length_bpEnc_triple triple)
      (by rw [parsedResult_paramUpdate, tripleOfBytes_tripleBytes]; rfl)
  | frameReq slot reserved =>
    exact decode_frameBytes (p := .request slot reserved) (by decide) (by rw [bpEnc_nil]; rfl)
      (parsedResult_request slot reserved)
  | frameResp slot reserved image =>
    exact decode_frameBytes (p := .response slot reserved image (rcDec image)) (by decide) (length_bpEnc_image image)
      (by rw [parsedResult_response, imageOfBytes_toList]; rfl)

/-- Settles O14: each packet is the encoding of its instruction. -/
theorem specWordsDecode : Obligations.SpecWordsDecode := by
  refine ⟨rfl, rfl, rfl, rfl, ?request, ?paramUpdate⟩
  case request =>
    have hpacket : Packet.frame [0xF0, 0x7D, 0x02, 0x12, 0x34, 0x01, 0xF7] = encode (.frameReq 1 (0x12, 0x34)) := by
      decide
    rw [hpacket]
    exact decodeOfEncodeIsTheInstruction _
  case paramUpdate =>
    have hpacket : Packet.frame [0xF0, 0x7D, 0x01, 0x00, 0x00, 0x01, 0x10, 0x03, 0x0F, 0x40, 0xF7]
        = encode (.frameParam 1 (0, 0) ⟨3, 0x0F, 0xC0⟩) := by decide
    rw [hpacket]
    exact decodeOfEncodeIsTheInstruction _

/-! Operands: field selectors (R86) and slots (R105). -/

theorem ofFsel_eq_none_of_illegal : ∀ fsel : Byte,
    fsel >>> 5 ≠ 0 ∨ fsel &&& 0x0F = 0x0F ∨ ((fsel &&& 0x0F).toNat ≤ 2 ∧ fsel &&& 0x10 ≠ 0) →
      InsField.ofFsel fsel = none := by decide

theorem rcTriple_of_illegal {fsel : Byte} (h : InsField.ofFsel fsel = none) (v : Int) :
    rcTriple fsel v = .error (.illegalRequest .badFieldSelector) := by
  rcases rcTriple_cases fsel v with ⟨_, herror⟩ | ⟨f, op, hsome, _⟩
  · exact herror
  · rw [h] at hsome; cases hsome

/-- Settles O30: an illegal selector names no field, and both operations answer with RC.TRIPLE's error. -/
theorem illegalSelectorIsRefused : Obligations.IllegalSelectorIsRefused := by
  intro s q fsel v hillegal i hi
  have htriple := rcTriple_of_illegal (ofFsel_eq_none_of_illegal fsel hillegal) v
  have hresult : operationResult s.cfg i = some (.error (.illegalRequest .badFieldSelector)) := by
    rcases List.mem_pair.mp hi with rfl | rfl <;> simp only [operationResult, htriple] <;> rfl
  rw [exec_of_operationResult hresult]
  rfl

theorem roundHalfUp_eq_floor (q : Rat) : roundHalfUp q = ⌊q + 1 / 2⌋ := by
  have hden : (q.den : Rat) ≠ 0 := Nat.cast_ne_zero.mpr q.den_nz
  have hq : q + 1 / 2 = ((2 * q.num + q.den : Int) : Rat) / ((2 * q.den : Nat) : Rat) := by
    conv_lhs => rw [← Rat.num_div_den q]
    push_cast
    field_simp
  rw [hq, Rat.floor_intCast_div_natCast, roundHalfUp]
  push_cast
  rfl

/-- Settles O34: the slot is `roundHalfUp` clamped, and `roundHalfUp` is the floor. -/
theorem slotIsRoundedAndClamped : Obligations.SlotIsRoundedAndClamped := by
  intro q
  rw [← roundHalfUp_eq_floor]
  simp only [slotOf]
  omega

end Sys2Proof.Machine

namespace Sys2Proof

/-- R37: the ranges of a valid operator. -/
theorem Operator.ranges_of_valid {o : Operator} (h : o.valid = true) :
    (0 ≤ o.keyScale ∧ o.keyScale ≤ 3) ∧ (0 ≤ o.frequencyMultiplier ∧ o.frequencyMultiplier ≤ 15)
      ∧ (0 ≤ o.outputLevel ∧ o.outputLevel ≤ 63) ∧ (0 ≤ o.attack ∧ o.attack ≤ 15) ∧ (0 ≤ o.decay ∧ o.decay ≤ 15)
      ∧ (0 ≤ o.sustain ∧ o.sustain ≤ 15) ∧ (0 ≤ o.release ∧ o.release ≤ 15) ∧ (0 ≤ o.waveform ∧ o.waveform ≤ 3) :=
  of_decide_eq_true h

/-- R38: the ranges of a valid instrument. -/
theorem Instrument.ranges_of_valid {ins : Instrument} (h : ins.valid = true) :
    (0 ≤ ins.drumChannel ∧ ins.drumChannel ≤ 255) ∧ (0 ≤ ins.feedback ∧ ins.feedback ≤ 7)
      ∧ ins.modulator.valid = true ∧ ins.carrier.valid = true := by
  simpa [Instrument.valid, and_assoc] using h

end Sys2Proof

namespace Sys2Proof.Machine

theorem toNat_byteOfInt {v : Int} (h0 : 0 ≤ v) (h : v < 256) : ((byteOfInt v).toNat : Int) = v := by
  rw [byteOfInt, BitVec.toNat_ofInt]
  omega

theorem toNat_boolByte (b : Bool) : (boolByte b).toNat = b.toNat := by cases b <;> rfl

/-- Fields in separate bits add up: `hi` from bit `k` up, `lo` below it. -/
theorem toNat_shiftLeft_xor {hi lo : Byte} (k : Nat) (hhi : hi.toNat * 2 ^ k < 256) (hlo : lo.toNat < 2 ^ k) :
    ((hi <<< k) ^^^ lo).toNat = 2 ^ k * hi.toNat + lo.toNat := by
  have hshift : (hi <<< k).toNat = 2 ^ k * hi.toNat := by
    rw [BitVec.toNat_shiftLeft, Nat.shiftLeft_eq, Nat.mod_eq_of_lt hhi, Nat.mul_comm]
  rw [BitVec.toNat_xor, hshift]
  refine Nat.eq_of_testBit_eq fun j => ?_
  rw [Nat.testBit_xor, Nat.testBit_two_pow_mul_add _ hlo, Nat.testBit_two_pow_mul]
  split
  · next hj => simp [Nat.not_le.mpr hj]
  · next hj =>
    have hkj := Nat.not_lt.mp hj
    simp [hkj, Nat.testBit_lt_two_pow (hlo.trans_le (Nat.pow_le_pow_right (by decide) hkj))]

/-- The four flags of an operator stand above its four-bit multiplier. -/
theorem toNat_flags_xor : ∀ (t v s e : Bool) (lo : Byte), lo.toNat < 16 →
    ((boolByte t <<< 7) ^^^ (boolByte v <<< 6) ^^^ (boolByte s <<< 5) ^^^ (boolByte e <<< 4) ^^^ lo).toNat
      = 128 * t.toNat + 64 * v.toNat + 32 * s.toNat + 16 * e.toNat + lo.toNat := by
  decide +kernel

section Operator

variable {o : Operator} (h : o.valid = true)
include h

/-! R141, R95: the bytes of a valid operator, each the sum of its fields. -/

theorem toNat_operatorByte0 :
    ((operatorByte0 o).toNat : Int) = 128 * o.tremolo.toNat + 64 * o.vibrato.toNat + 32 * o.sustaining.toNat
      + 16 * o.envelopeScaling.toNat + o.frequencyMultiplier := by
  obtain ⟨_, ⟨hlo, hhi⟩, _⟩ := o.ranges_of_valid h
  have hmultiplier := toNat_byteOfInt hlo (by omega)
  rw [operatorByte0, toNat_flags_xor _ _ _ _ _ (by omega)]
  omega

theorem toNat_operatorByte1 : ((operatorByte1 o).toNat : Int) = 64 * o.keyScale + (63 - o.outputLevel) := by
  obtain ⟨⟨hklo, hkhi⟩, _, ⟨hllo, hlhi⟩, _⟩ := o.ranges_of_valid h
  have hkey := toNat_byteOfInt hklo (by omega)
  have hlevel := toNat_byteOfInt (v := 63 - o.outputLevel) (by omega) (by omega)
  rw [operatorByte1, toNat_shiftLeft_xor 6 (by omega) (by omega)]
  omega

theorem toNat_operatorByte2 : ((operatorByte2 o).toNat : Int) = 16 * o.attack + o.decay := by
  obtain ⟨_, _, _, ⟨halo, hahi⟩, ⟨hdlo, hdhi⟩, _⟩ := o.ranges_of_valid h
  have hattack := toNat_byteOfInt halo (by omega)
  have hdecay := toNat_byteOfInt hdlo (by omega)
  rw [operatorByte2, toNat_shiftLeft_xor 4 (by omega) (by omega)]
  omega

theorem toNat_operatorByte3 : ((operatorByte3 o).toNat : Int) = 16 * (15 - o.sustain) + o.release := by
  obtain ⟨_, _, _, _, _, ⟨hslo, hshi⟩, ⟨hrlo, hrhi⟩, _⟩ := o.ranges_of_valid h
  have hsustain := toNat_byteOfInt (v := 15 - o.sustain) (by omega) (by omega)
  have hrelease := toNat_byteOfInt hrlo (by omega)
  rw [operatorByte3, toNat_shiftLeft_xor 4 (by omega) (by omega)]
  omega

theorem toNat_operatorByte4 : ((operatorByte4 o).toNat : Int) = o.waveform := by
  obtain ⟨_, _, _, _, _, _, _, ⟨hlo, hhi⟩⟩ := o.ranges_of_valid h
  exact toNat_byteOfInt hlo (by omega)

end Operator

theorem toNat_connectionByte {ins : Instrument} (h : ins.valid = true) :
    ((connectionByte ins).toNat : Int) = 2 * ins.feedback + (!ins.frequencyModulation).toNat := by
  obtain ⟨_, ⟨hlo, hhi⟩, _⟩ := ins.ranges_of_valid h
  have hfeedback := toNat_byteOfInt hlo (by omega)
  have hbit := toNat_boolByte (!ins.frequencyModulation)
  have hlt := (!ins.frequencyModulation).toNat_lt
  rw [connectionByte, toNat_shiftLeft_xor 1 (by omega) (by omega)]
  omega

theorem rcEnc_of_valid {ins : Instrument} (h : ins.valid = true) : rcEnc ins = .ok (imageOf ins) := by
  simp only [rcEnc, ins.valid_iff.mp h]; rfl

theorem boolToNat_eq_ite (b : Bool) : (b.toNat : Int) = if b then 1 else 0 := by cases b <;> rfl

/-- Settles O25: the image is `imageOf`, byte by byte. -/
theorem rcEncPlacesEveryField : Obligations.RcEncPlacesEveryField := by
  intro s ins h
  obtain ⟨⟨hdlo, hdhi⟩, _, hmod, hcar⟩ := ins.ranges_of_valid h
  have hresult : operationResult s.cfg (.rcEnc ins) = some (.ok (.image (imageOf ins))) := by
    simp only [operationResult, rcEnc_of_valid h]; rfl
  refine ⟨imageOf ins, exec_of_operationResult hresult, ?_⟩
  simp only [← boolToNat_eq_ite]
  exact ⟨toNat_byteOfInt hdlo (by omega), toNat_connectionByte h,
    ⟨toNat_operatorByte0 hmod, toNat_operatorByte1 hmod, toNat_operatorByte2 hmod, toNat_operatorByte3 hmod,
      toNat_operatorByte4 hmod⟩,
    ⟨toNat_operatorByte0 hcar, toNat_operatorByte1 hcar, toNat_operatorByte2 hcar, toNat_operatorByte3 hcar,
      toNat_operatorByte4 hcar⟩⟩

/-! R145: RC.DEC of the image of a valid instrument. -/

theorem getLsbD_eq_decide (b : Byte) (k : Nat) : b.getLsbD k = decide (b.toNat / 2 ^ k % 2 = 1) := by
  rw [BitVec.getLsbD, Nat.testBit_eq_decide_div_mod_eq]

theorem decide_eq_one_of_eq_toNat {n : Nat} {b : Bool} (h : n = b.toNat) : decide (n = 1) = b := by
  subst h; cases b <;> rfl

theorem decodeOperator_operatorBytes {o : Operator} (h : o.valid = true) :
    decodeOperator (operatorByte0 o) (operatorByte1 o) (operatorByte2 o) (operatorByte3 o) (operatorByte4 o) = o := by
  have h0 := toNat_operatorByte0 h
  have h1 := toNat_operatorByte1 h
  have h2 := toNat_operatorByte2 h
  have h3 := toNat_operatorByte3 h
  have h4 := toNat_operatorByte4 h
  obtain ⟨hkey, hmul, hlevel, hattack, hdecay, hsustain, hrelease, hwave⟩ := o.ranges_of_valid h
  have ht := o.tremolo.toNat_lt
  have hv := o.vibrato.toNat_lt
  have hs := o.sustaining.toNat_lt
  have he := o.envelopeScaling.toNat_lt
  simp only [decodeOperator, bits, getLsbD_eq_decide, Nat.shiftRight_eq_div_pow]
  congr 1
  case e_tremolo | e_vibrato | e_sustaining | e_envelopeScaling => exact decide_eq_one_of_eq_toNat (by omega)
  all_goals omega

theorem rcDec_imageOf {ins : Instrument} (h : ins.valid = true) : rcDec (imageOf ins) = ins := by
  obtain ⟨⟨hdlo, hdhi⟩, ⟨hflo, hfhi⟩, hmod, hcar⟩ := ins.ranges_of_valid h
  have hdrum := toNat_byteOfInt hdlo (by omega)
  have hconn := toNat_connectionByte h
  have hlt := (!ins.frequencyModulation).toNat_lt
  unfold rcDec
  congr 1
  case e_feedback =>
    change ((bits (connectionByte ins) 3 1 : Nat) : Int) = ins.feedback
    rw [bits, Nat.shiftRight_eq_div_pow]
    omega
  case e_frequencyModulation =>
    change (!(connectionByte ins).getLsbD 0) = ins.frequencyModulation
    rw [getLsbD_eq_decide, decide_eq_one_of_eq_toNat (b := !ins.frequencyModulation) (by omega), Bool.not_not]
  case e_modulator => exact decodeOperator_operatorBytes hmod
  case e_carrier => exact decodeOperator_operatorBytes hcar

/-! R146: RC.ENC of the decoding of any image. -/

theorem operatorByte0_decodeOperator (b0 b1 b2 b3 b4 : Byte) :
    operatorByte0 (decodeOperator b0 b1 b2 b3 b4) = b0 := by
  have h : ∀ b : Byte, operatorByte0 (decodeOperator b 0 0 0 0) = b := by decide +kernel
  exact h b0

theorem operatorByte1_decodeOperator (b0 b1 b2 b3 b4 : Byte) :
    operatorByte1 (decodeOperator b0 b1 b2 b3 b4) = b1 := by
  have h : ∀ b : Byte, operatorByte1 (decodeOperator 0 b 0 0 0) = b := by decide +kernel
  exact h b1

theorem operatorByte2_decodeOperator (b0 b1 b2 b3 b4 : Byte) :
    operatorByte2 (decodeOperator b0 b1 b2 b3 b4) = b2 := by
  have h : ∀ b : Byte, operatorByte2 (decodeOperator 0 0 b 0 0) = b := by decide +kernel
  exact h b2

theorem operatorByte3_decodeOperator (b0 b1 b2 b3 b4 : Byte) :
    operatorByte3 (decodeOperator b0 b1 b2 b3 b4) = b3 := by
  have h : ∀ b : Byte, operatorByte3 (decodeOperator 0 0 0 b 0) = b := by decide +kernel
  exact h b3

theorem operatorByte4_decodeOperator (b0 b1 b2 b3 b4 : Byte) :
    operatorByte4 (decodeOperator b0 b1 b2 b3 b4) = b4 &&& 0x03 := by
  have h : ∀ b : Byte, operatorByte4 (decodeOperator 0 0 0 0 b) = b &&& 0x03 := by decide +kernel
  exact h b4

/-- R146: clearing touches bytes 5, 6 and 11 only. -/
theorem clearUnused_eq (m : Image) :
    clearUnused m = #v[m[0], m[1], m[2], m[3], m[4], m[5] &&& 0x03, m[6] &&& 0x0F, m[7], m[8], m[9], m[10],
      m[11] &&& 0x03] := by
  have hall : ∀ b : Byte, b &&& 0xFF = b := by decide
  have hmasked : clearUnused m = #v[m[0] &&& 0xFF, m[1] &&& 0xFF, m[2] &&& 0xFF, m[3] &&& 0xFF, m[4] &&& 0xFF,
      m[5] &&& 0x03, m[6] &&& 0x0F, m[7] &&& 0xFF, m[8] &&& 0xFF, m[9] &&& 0xFF, m[10] &&& 0xFF, m[11] &&& 0x03] := rfl
  rw [hmasked]
  simp only [hall]

theorem connectionByte_rcDec (m : Image) : connectionByte (rcDec m) = m[6] &&& 0x0F := by
  have h : ∀ b : Byte, (byteOfInt (bits b 3 1 : Nat) <<< 1) ^^^ boolByte (!!b.getLsbD 0) = b &&& 0x0F := by
    decide +kernel
  exact h m[6]

theorem byteOfInt_toNat : ∀ b : Byte, byteOfInt (b.toNat : Int) = b := by decide +kernel

/-- R146: encoding the decoding of an image keeps it but for the bits no field occupies. -/
theorem imageOf_rcDec (m : Image) : imageOf (rcDec m) = clearUnused m := by
  rw [clearUnused_eq, imageOf, connectionByte_rcDec]
  simp only [rcDec, operatorByte0_decodeOperator, operatorByte1_decodeOperator, operatorByte2_decodeOperator,
    operatorByte3_decodeOperator, operatorByte4_decodeOperator, byteOfInt_toNat]

/-- R146: two images with the unused bits 0 are equal when they decode to the same instrument. -/
theorem eq_imageOf_of_rcDec_eq {m : Image} {ins : Instrument} (hm : clearUnused m = m) (h : rcDec m = ins) :
    m = imageOf ins := by
  rw [← h, imageOf_rcDec, hm]

/-- R96: the image of a valid instrument has its unused bits 0. -/
theorem clearUnused_imageOf {ins : Instrument} (h : ins.valid = true) : clearUnused (imageOf ins) = imageOf ins := by
  rw [← imageOf_rcDec, rcDec_imageOf h]

end Sys2Proof.Machine

namespace Sys2Proof

open Machine

/-! A field in its byte (R85, R103): the stored bits of a value lie under the field's mask, extracting reads only those,
and fields that share a byte have disjoint masks. -/

theorem InsField.stored_range {f : InsField} {v : Int} (h : f.inRange v = true) :
    0 ≤ f.stored v ∧ f.stored v < 2 ^ f.width := by
  rw [inRange_iff] at h
  cases f <;> simp only [InsField.stored, InsField.width, InsField.maxValue] at h ⊢ <;> omega

theorem InsField.unstored_stored {f : InsField} {v : Int} (h : f.inRange v = true) :
    f.unstored (f.stored v).toNat = v := by
  rw [inRange_iff] at h
  cases f <;> simp only [InsField.stored, InsField.unstored, InsField.maxValue] at h ⊢ <;> omega

theorem InsField.width_le (f : InsField) : 2 ^ f.width ≤ 256 := by
  cases f <;> decide

theorem InsField.shiftLeft_lo_and_fmask (f : InsField) :
    ∀ w : Byte, w.toNat < 2 ^ f.width → (w <<< f.lo) &&& f.fmask = w <<< f.lo := by
  cases f <;> decide +kernel

theorem InsField.shiftRight_lo_shiftLeft (f : InsField) :
    ∀ w : Byte, w.toNat < 2 ^ f.width → ((w <<< f.lo).toNat >>> f.lo) % 2 ^ f.width = w.toNat := by
  cases f <;> decide +kernel

theorem InsField.extract_and_fmask (f : InsField) : ∀ b : Byte, f.extract (b &&& f.fmask) = f.extract b := by
  cases f <;> decide +kernel

/-- R144: whatever a byte holds, a field's value extracted from it is in the field's range. -/
theorem InsField.inRange_extract (f : InsField) : ∀ b : Byte, f.inRange (f.extract b) = true := by
  cases f <;> decide +kernel

/-- R62: a field's bits are bits of its byte that the image uses. -/
theorem InsField.fmask_and_usedBits (f : InsField) (op : OpSel) :
    f.fmask &&& usedBits[f.offset op]'(offset_lt f op) = f.fmask := by
  cases f <;> cases op <;> decide

/-- R85: the fields by their ids. -/
def InsField.all : List InsField := [.drumChannel, .feedback, .frequencyModulation] ++ operatorFields

theorem InsField.mem_all (f : InsField) : f ∈ InsField.all := by
  cases f <;> decide

theorem OpSel.mem_all (op : OpSel) : op ∈ [OpSel.modulator, .carrier] := by
  cases op <;> decide

theorem InsField.fmask_disjoint {f g : InsField} {op p : OpSel} (hbyte : f.offset op = g.offset p)
    (hfield : f.fsel op ≠ g.fsel p) : f.fmask &&& g.fmask = 0 := by
  have h : ∀ f ∈ InsField.all, ∀ g ∈ InsField.all, ∀ op ∈ [OpSel.modulator, .carrier],
      ∀ p ∈ [OpSel.modulator, .carrier], f.offset op = g.offset p → f.fsel op ≠ g.fsel p → f.fmask &&& g.fmask = 0 := by
    decide +kernel
  exact h f f.mem_all g g.mem_all op op.mem_all p p.mem_all hbyte hfield

/-- A selector names one field of an instrument. -/
theorem Instrument.getField_of_fsel_eq (ins : Instrument) {f g : InsField} {op p : OpSel} (h : f.fsel op = g.fsel p) :
    ins.getField f op = ins.getField g p := by
  obtain ⟨rfl, _⟩ := InsField.eq_of_fsel_eq f g op p h
  cases op <;> cases p
  case modulator.modulator | carrier.carrier => rfl
  all_goals
    cases f
    case drumChannel | feedback | frequencyModulation => rfl
    all_goals exact absurd h (by decide)

end Sys2Proof

namespace Sys2Proof.Machine

/-! Writing a field's bits `w` under its mask `F`, as a triple does (R72, R97), seen through another mask. -/

section UpdateOfBits

variable {b w F G : Byte}

theorem complement_eq_not (F : Byte) : (0xFF ^^^ F) = ~~~F := by
  rw [← BitVec.allOnes_xor]; rfl

theorem and_complement_of_and_eq (hw : w &&& F = w) : w &&& (0xFF ^^^ F) = 0 := by
  rw [complement_eq_not, ← hw, BitVec.and_assoc, BitVec.and_not_self]
  simp

theorem update_and_same (hw : w &&& F = w) : ((b &&& (0xFF ^^^ F)) ||| w) &&& F = w := by
  rw [complement_eq_not]
  ext j hj
  have hbit := congrArg (fun x : Byte => x[j]) hw
  simp at hbit ⊢
  grind

theorem update_and_disjoint (hw : w &&& F = w) (hG : F &&& G = 0) : ((b &&& (0xFF ^^^ F)) ||| w) &&& G = b &&& G := by
  rw [complement_eq_not]
  ext j hj
  have hbit := congrArg (fun x : Byte => x[j]) hw
  have hdisjoint := congrArg (fun x : Byte => x[j]) hG
  simp at hbit hdisjoint ⊢
  grind

theorem update_and_superset (hw : w &&& F = w) (hG : F &&& G = F) (hb : b &&& G = b) :
    ((b &&& (0xFF ^^^ F)) ||| w) &&& G = (b &&& (0xFF ^^^ F)) ||| w := by
  ext j hj
  have hbit := congrArg (fun x : Byte => x[j]) hw
  have hsuperset := congrArg (fun x : Byte => x[j]) hG
  have hold := congrArg (fun x : Byte => x[j]) hb
  simp at hbit hsuperset hold ⊢
  grind

theorem extract_update_same {f : InsField} (hw : w &&& f.fmask = w) :
    f.extract ((b &&& (0xFF ^^^ f.fmask)) ||| w) = f.extract w := by
  rw [← f.extract_and_fmask, update_and_same hw]

theorem extract_update_disjoint {g : InsField} (hw : w &&& F = w) (hg : F &&& g.fmask = 0) :
    g.extract ((b &&& (0xFF ^^^ F)) ||| w) = g.extract b := by
  rw [← g.extract_and_fmask, update_and_disjoint hw hg, g.extract_and_fmask]

end UpdateOfBits

/-! Triples (R97, R147 to R149): what the update of a field's triple does to an image, and to the instrument
it decodes to. -/

section Triples

variable {f : InsField} (op : OpSel) {v : Int} (hv : f.inRange v = true)

@[simp] theorem toNat_offset_tripleOf (f : InsField) (op : OpSel) (v : Int) :
    (tripleOf f op v).offset.toNat = f.offset op := by
  have := offset_lt f op
  rw [tripleOf, BitVec.toNat_ofNat, Nat.mod_eq_of_lt (by omega)]

include hv

theorem toNat_stored :
    (byteOfInt (f.stored v)).toNat = (f.stored v).toNat ∧ (byteOfInt (f.stored v)).toNat < 2 ^ f.width := by
  obtain ⟨hlo, hhi⟩ := InsField.stored_range hv
  have hwidth : ((2 ^ f.width : Nat) : Int) ≤ 256 := by exact_mod_cast f.width_le
  push_cast at hwidth
  have hbyte := toNat_byteOfInt hlo (by omega)
  refine ⟨by omega, ?_⟩
  zify
  rwa [hbyte]

theorem value_tripleOf_and_fmask : (tripleOf f op v).value &&& f.fmask = (tripleOf f op v).value :=
  f.shiftLeft_lo_and_fmask _ (toNat_stored hv).2

/-- R97: a triple's value lies outside its mask. -/
theorem value_and_mask_tripleOf : (tripleOf f op v).value &&& (tripleOf f op v).mask = 0 :=
  and_complement_of_and_eq (value_tripleOf_and_fmask op hv)

theorem extract_value_tripleOf : f.extract (tripleOf f op v).value = v := by
  obtain ⟨hstored, hlt⟩ := toNat_stored hv
  rw [InsField.extract, tripleOf, f.shiftRight_lo_shiftLeft _ hlt, hstored, InsField.unstored_stored hv]

/-- R149: on any image, the update of a field's triple sets that field of the instrument and no other. -/
theorem rcDec_applyTriple (m : Image) : rcDec (applyTriple m (tripleOf f op v)) = (rcDec m).setField f op v := by
  have hvalue := value_tripleOf_and_fmask op hv
  refine Instrument.ext_getField fun g p => ?_
  rw [Instrument.getField_setField _ _ _ _ _ _ hv, getField_rcDec, getField_rcDec, getElem_applyTriple,
    toNat_offset_tripleOf]
  by_cases hfield : f.fsel op = g.fsel p
  · obtain ⟨rfl, hbyte⟩ := InsField.eq_of_fsel_eq f g op p hfield
    rw [if_pos hbyte, if_pos hfield]
    exact (extract_update_same hvalue).trans (extract_value_tripleOf op hv)
  · rw [if_neg hfield]
    split
    · next hbyte => exact extract_update_disjoint hvalue (InsField.fmask_disjoint hbyte hfield)
    · rfl

/-- R96: the update of a field's triple keeps the unused bits 0. -/
theorem clearUnused_applyTriple {m : Image} (hm : clearUnused m = m) :
    clearUnused (applyTriple m (tripleOf f op v)) = applyTriple m (tripleOf f op v) := by
  refine Vector.ext fun k hk => ?_
  have hbyte : m[k] &&& usedBits[k] = m[k] := by rw [← getElem_clearUnused, hm]
  rw [getElem_clearUnused, getElem_applyTriple, toNat_offset_tripleOf]
  split
  · next hoffset =>
    subst hoffset
    exact update_and_superset (value_tripleOf_and_fmask op hv) (f.fmask_and_usedBits op) hbyte
  · exact hbyte

theorem rcTriple_fsel : rcTriple (f.fsel op) v = .ok (tripleOf f op v) := by
  rw [rcTriple, ofFsel_fsel]
  simp only [hv, if_true]
  congr 1
  cases hshared : f.shared <;> simp [tripleOf, InsField.offset, hshared]

end Triples
/-! MF.DELTA (R109): its requests write the new values over the old ones, field by field. -/

/-- R144: every field RC.DEC answers is in its range. -/
theorem inRange_getField_rcDec (m : Image) (f : InsField) (op : OpSel) :
    f.inRange ((rcDec m).getField f op) = true := by
  rw [getField_rcDec]
  exact f.inRange_extract _

theorem inRange_getField_of_valid {ins : Instrument} (h : ins.valid = true) (f : InsField) (op : OpSel) :
    f.inRange (ins.getField f op) = true := by
  rw [← rcDec_imageOf h]
  exact inRange_getField_rcDec _ f op

/-- The MF.BUILD.PARAM for a field's value in `new`. -/
def buildField (q : Rat) (new : Instrument) (fo : InsField × OpSel) : Instr :=
  .mfBuildParam q (fo.1.fsel fo.2) (new.getField fo.1 fo.2)

/-- An instrument with the listed fields set to their values in `new`. -/
def setFields (new ins : Instrument) (fields : List (InsField × OpSel)) : Instrument :=
  fields.foldl (fun i fo => i.setField fo.1 fo.2 (new.getField fo.1 fo.2)) ins

/-- An image with the triples of the listed fields' requests applied in order. -/
def afterBuilds (q : Rat) (new : Instrument) (fields : List (InsField × OpSel)) (m : Image) : Image :=
  (fields.map (buildField q new)).foldl afterParam m

/-- The fields MF.DELTA names. -/
def changedFields (old new : Instrument) : List (InsField × OpSel) :=
  deltaOrder.filter fun fo => old.getField fo.1 fo.2 ≠ new.getField fo.1 fo.2

theorem foldl_mfDelta_eq_afterBuilds (q : Rat) (old new : Instrument) (m : Image) :
    (mfDelta q old new).foldl afterParam m = afterBuilds q new (changedFields old new) m := rfl

theorem exists_mem_deltaOrder (f : InsField) (op : OpSel) : ∃ fo ∈ deltaOrder, fo.1.fsel fo.2 = f.fsel op := by
  cases f <;> cases op <;> decide

section SetFields

variable {new : Instrument} (hnew : new.valid = true)
include hnew

/-- A field takes its new value when it is listed, or when it had that value before. -/
theorem getField_setFields (fields : List (InsField × OpSel)) (ins : Instrument) (g : InsField) (p : OpSel)
    (h : (∃ fo ∈ fields, fo.1.fsel fo.2 = g.fsel p) ∨ ins.getField g p = new.getField g p) :
    (setFields new ins fields).getField g p = new.getField g p := by
  induction fields generalizing ins with
  | nil => exact h.resolve_left (by simp)
  | cons fo fields ih =>
    have hset := ins.getField_setField fo.1 g fo.2 p _ (inRange_getField_of_valid hnew fo.1 fo.2)
    refine ih _ ?_
    rw [hset]
    by_cases hfo : fo.1.fsel fo.2 = g.fsel p
    · rw [if_pos hfo]
      exact .inr (new.getField_of_fsel_eq hfo)
    · rw [if_neg hfo]
      simpa [hfo] using h

theorem setFields_changedFields (old : Instrument) : setFields new old (changedFields old new) = new := by
  refine Instrument.ext_getField fun g p => getField_setFields hnew _ old g p ?_
  by_cases hsame : old.getField g p = new.getField g p
  · exact .inr hsame
  · obtain ⟨fo, hmem, hfo⟩ := exists_mem_deltaOrder g p
    refine .inl ⟨fo, List.mem_filter.mpr ⟨hmem, ?_⟩, hfo⟩
    rw [old.getField_of_fsel_eq hfo, new.getField_of_fsel_eq hfo]
    exact decide_eq_true hsame

theorem afterParam_buildField (q : Rat) (m : Image) (fo : InsField × OpSel) :
    afterParam m (buildField q new fo) = applyTriple m (tripleOf fo.1 fo.2 (new.getField fo.1 fo.2)) := by
  simp only [buildField, afterParam, rcTriple_fsel fo.2 (inRange_getField_of_valid hnew fo.1 fo.2)]

/-- On an image whose unused bits are 0, the requests set the fields and keep those bits. -/
theorem afterBuilds_spec (q : Rat) (fields : List (InsField × OpSel)) {m : Image} (hm : clearUnused m = m) :
    clearUnused (afterBuilds q new fields m) = afterBuilds q new fields m
      ∧ rcDec (afterBuilds q new fields m) = setFields new (rcDec m) fields := by
  induction fields generalizing m with
  | nil => exact ⟨hm, rfl⟩
  | cons fo fields ih =>
    have hv := inRange_getField_of_valid hnew fo.1 fo.2
    have hcons : afterBuilds q new (fo :: fields) m
        = afterBuilds q new fields (applyTriple m (tripleOf fo.1 fo.2 (new.getField fo.1 fo.2))) := by
      rw [← afterParam_buildField hnew q]; rfl
    rw [hcons]
    obtain ⟨hclear, hdec⟩ := ih (clearUnused_applyTriple fo.2 hv hm)
    refine ⟨hclear, ?_⟩
    rw [hdec, rcDec_applyTriple fo.2 hv]
    rfl

theorem foldl_mfDelta (q : Rat) {old : Instrument} (hold : old.valid = true) :
    (mfDelta q old new).foldl afterParam (imageOf old) = imageOf new := by
  obtain ⟨hclear, hdec⟩ := afterBuilds_spec hnew q (changedFields old new) (clearUnused_imageOf hold)
  rw [foldl_mfDelta_eq_afterBuilds]
  refine eq_imageOf_of_rcDec_eq hclear ?_
  rw [hdec, rcDec_imageOf hold, setFields_changedFields hnew]

theorem wellFormed_of_mem_mfDelta {q : Rat} {old : Instrument} {i : Instr} (hi : i ∈ mfDelta q old new) :
    i.wellFormed = true := by
  obtain ⟨fo, _, rfl⟩ := List.mem_map.mp hi
  simp only [Instr.wellFormed, legalFieldValue, ofFsel_fsel]
  exact inRange_getField_of_valid hnew fo.1 fo.2

end SetFields

/-- R109: a field as its selector and its value in an instrument. -/
def fieldReader (fo : InsField × OpSel) : Byte × (Instrument → Int) := (fo.1.fsel fo.2, fun i => i.getField fo.1 fo.2)

theorem mfDelta_eq_map_fieldReader (q : Rat) (old new : Instrument) :
    mfDelta q old new = ((deltaOrder.map fieldReader).filter fun f => f.2 old ≠ f.2 new).map
      fun f => .mfBuildParam q f.1 (f.2 new) := by
  rw [List.filter_map, List.map_map]
  rfl

/-- Settles O42: the statement's table is `deltaOrder` read by selector, and the images follow by `foldl_mfDelta`. -/
theorem deltaReachesTheNewInstrument : Obligations.DeltaReachesTheNewInstrument := by
  unfold Obligations.DeltaReachesTheNewInstrument
  intro operatorFields fields q old new
  have hfields : fields = deltaOrder.map fieldReader := rfl
  have hdelta := mfDelta_eq_map_fieldReader q old new
  rw [← hfields] at hdelta
  refine ⟨hdelta, ?_, ?_⟩
  · intro hsame
    rw [hdelta, List.map_eq_nil_iff, List.filter_eq_nil_iff]
    simpa using hsame
  · intro hold hnew
    exact ⟨imageOf old, imageOf new, rcEnc_of_valid hold, rcEnc_of_valid hnew,
      fun i hi => wellFormed_of_mem_mfDelta hnew hi, foldl_mfDelta hnew q hold⟩

/-! What a computation can answer, said of its errors and of its values, and passed along binds: the operations are then
gone through line by line. -/

/-- Every error of the computation meets `E`, and every value `P`. -/
def Ensures {α : Type} (E : ErrorInfo → Prop) (P : α → Prop) : Except ErrorInfo α → Prop
  | .ok a => P a
  | .error e => E e

section Ensures

variable {α β : Type} {E : ErrorInfo → Prop} {P : α → Prop} {Q : β → Prop}

theorem Ensures.bind {x : Except ErrorInfo α} {f : α → Except ErrorInfo β} (hx : Ensures E P x)
    (hf : ∀ a, P a → Ensures E Q (f a)) : Ensures E Q (x >>= f) := by
  cases x with
  | ok a => exact hf a hx
  | error e => exact hx

theorem Ensures.mono {E' : ErrorInfo → Prop} {P' : α → Prop} {x : Except ErrorInfo α} (hx : Ensures E P x)
    (hE : ∀ e, E e → E' e) (hP : ∀ a, P a → P' a) : Ensures E' P' x := by
  cases x with
  | ok a => exact hP a hx
  | error e => exact hE e hx

theorem Ensures.mapM {f : α → Except ErrorInfo β} {R : α → β → Prop} {l : List α}
    (h : ∀ a ∈ l, Ensures E (R a) (f a)) : Ensures E (List.Forall₂ R l) (l.mapM f) := by
  induction l with
  | nil => exact .nil
  | cons a l ih =>
    rw [List.mapM_cons]
    refine (h a (by simp)).bind fun b hb => ?_
    exact (ih fun c hc => h c (by simp [hc])).bind fun bs hbs => List.Forall₂.cons hb hbs

theorem exists_of_mem_forall₂ {R : α → β → Prop} {as : List α} {bs : List β} (h : List.Forall₂ R as bs) {b : β}
    (hb : b ∈ bs) : ∃ a ∈ as, R a b := by
  obtain ⟨n, hn, rfl⟩ := List.mem_iff_getElem.mp hb
  obtain ⟨hlength, hget⟩ := List.forall₂_iff_get.mp h
  exact ⟨as[n]'(hlength ▸ hn), List.getElem_mem _, hget n (hlength ▸ hn) hn⟩

end Ensures

/-! The RegisterCodec's answers (R96, R97, R140, R144). -/

theorem wf_invalidRange_fsel {f : InsField} {v : Int} (op : OpSel) (h : f.inRange v = false) :
    (ErrorInfo.invalidRange (f.fsel op) v).wf :=
  ⟨f, _, ofFsel_fsel f op, h⟩

theorem ensures_rcEnc (ins : Instrument) : Ensures ErrorInfo.wf (fun m => clearUnused m = m) (rcEnc ins) := by
  rcases checkInstrument_cases ins with ⟨hok, _⟩ | ⟨fo, _, hrange, herror⟩
  · have hvalid := ins.valid_iff.mpr hok
    rw [rcEnc_of_valid hvalid]
    exact clearUnused_imageOf hvalid
  · simp only [rcEnc, herror]
    exact wf_invalidRange_fsel fo.2 hrange

theorem ensures_rcTriple (fsel : Byte) (v : Int) :
    Ensures ErrorInfo.wf (fun t => t.offset.toNat ≤ 11 ∧ t.value &&& t.mask = 0) (rcTriple fsel v) := by
  rcases rcTriple_cases fsel v with ⟨_, herror⟩ | ⟨f, op, hsel, ⟨hrange, hok⟩ | ⟨hrange, herror⟩⟩
  · rw [herror]; trivial
  · rw [hok]
    exact ⟨by rw [toNat_offset_tripleOf]; exact Nat.le_of_lt_succ (offset_lt f op), value_and_mask_tripleOf op hrange⟩
  · rw [herror]
    exact ⟨f, op, hsel, hrange⟩

theorem valid_rcDec (m : Image) : (rcDec m).valid = true := by
  rcases checkInstrument_cases (rcDec m) with ⟨hok, _⟩ | ⟨fo, _, hrange, _⟩
  · exact (rcDec m).valid_iff.mpr hok
  · rw [inRange_getField_rcDec] at hrange
    cases hrange

/-! MF.PARSE's answers (R191, R273). -/

/-- An error the rules allow, of one kind. -/
def LawfulOfKind (k : ErrorKind) (e : ErrorInfo) : Prop := e.kind = k ∧ e.wf

theorem wf_of_parsedResult {cmd : Byte} {slot : Fin 16} {reserved : Byte × Byte} {payload : Bytes} {p : ParsedFrame}
    (h : parsedResult cmd slot reserved payload = some p) : p.wf := by
  rcases parsedResult_cases h with ⟨m, _, _, rfl⟩ | ⟨t, _, _, rfl⟩ | ⟨_, _, rfl⟩ | ⟨m, _, _, rfl⟩
  · trivial
  · trivial
  · trivial
  · rfl

theorem ensures_mfParse (fr : Bytes) : Ensures (LawfulOfKind .malformedFrame) ParsedFrame.wf (mfParse fr) := by
  unfold mfParse
  split
  · next h => exact ⟨rfl, h⟩
  next hlen =>
  split
  · exact ⟨rfl, rfl⟩
  split
  · exact ⟨rfl, rfl⟩
  split
  · exact ⟨rfl, by change 6 ≤ _; omega⟩
  split
  · exact ⟨rfl, rfl⟩
  split
  · exact ⟨rfl, rfl⟩
  dsimp only
  split
  · exact ⟨rfl, Nat.le_add_right 6 _⟩
  split
  · exact ⟨rfl, trivial⟩
  split
  · next hp => exact wf_of_parsedResult hp
  · exact ⟨rfl, trivial⟩

/-! BF.PARSE's answers (R43, R144, R274). Every read after the header's is beyond its 19 bytes. -/

section BankFile

variable (file : Bytes)

theorem lawful_truncated {o : Nat} (h : 19 ≤ o) :
    LawfulOfKind .unsupportedFileFormat (.unsupportedFileFormat .truncated o) := ⟨rfl, h⟩

theorem ensures_readBytes {off : Nat} (n : Nat) (h : 19 ≤ off) :
    Ensures (LawfulOfKind .unsupportedFileFormat) (fun _ => True) (readBytes file off n) := by
  unfold readBytes
  split
  · trivial
  · exact lawful_truncated (by omega)

theorem ensures_readByte {off : Nat} (h : 19 ≤ file.length ∨ 19 ≤ off) :
    Ensures (LawfulOfKind .unsupportedFileFormat) (fun _ => True) (readByte file off) := by
  unfold readByte
  split
  · trivial
  · next hnone =>
    have := List.getElem?_eq_none_iff.mp hnone
    exact lawful_truncated (by omega)

theorem ensures_readHeader : Ensures (LawfulOfKind .unsupportedFileFormat) (fun _ => True) (readHeader file) := by
  unfold readHeader
  split
  · exact ⟨rfl, rfl⟩
  split
  · exact lawful_truncated (Nat.le_refl 19)
  next hlen =>
  have hread := fun off => ensures_readByte file (off := off) (.inl (Nat.not_lt.mp hlen))
  refine Ensures.bind (P := fun _ => True) ?_ fun _ _ => Ensures.bind (P := fun _ => True) ?_ fun _ _ =>
    Ensures.bind (P := fun _ => True) ?_ fun _ _ => trivial
  all_goals exact (hread _).bind fun _ _ => (hread _).bind fun _ _ => trivial

theorem tableOffset_ge (hd : BankHeader) : 19 ≤ tableOffset hd := by
  unfold tableOffset
  split <;> omega

theorem ensures_readRecord (cfg : Config) {r : Nat} (pos : Nat) (h : 19 ≤ r) :
    Ensures (LawfulOfKind .unsupportedFileFormat) (fun slot => ∀ p ∈ slot, p.2.valid = true)
      (readRecord cfg file r pos) := by
  unfold readRecord
  refine (ensures_readByte file (.inr (by omega))).bind fun flags _ => ?_
  split
  · exact fun p hp => absurd hp (Option.not_mem_none p)
  refine (ensures_readBytes file 32 h).bind fun name _ => ?_
  refine (ensures_readBytes file 5 (by omega)).bind fun modulator _ => ?_
  refine (ensures_readByte file (.inr (by omega))).bind fun fbconn _ => ?_
  refine (ensures_readBytes file 5 (by omega)).bind fun carrier _ => ?_
  intro p hp
  obtain ⟨m, _, rfl⟩ := Option.map_eq_some_iff.mp hp
  exact valid_rcDec m

/-- The index a label holds between its brackets. -/
def labelIndex (label : Bytes) : Nat := decimalValue (label.tail.takeWhile (· ≠ 0x5D))

theorem labelIndex_labelOf (i : Nat) (name : Bytes) : labelIndex (labelOf i name) = i := by
  rw [labelIndex, takeWhile_tail_labelOf, decimalValue_dec]

theorem ensures_bankLabel (hd : BankHeader) (i : Nat) :
    Ensures (LawfulOfKind .unsupportedFileFormat) (fun label => labelIndex label = i) (bankLabel file hd i) := by
  unfold bankLabel
  split
  · exact (ensures_readBytes file 32 (by omega)).bind fun name _ => labelIndex_labelOf i _
  · exact labelIndex_labelOf i []

/-- What bank `i` is: its label names its index, and its instruments are at most 128 and valid. -/
def IsBankEntry (i : Nat) (e : BankEntry) : Prop :=
  labelIndex e.label = i ∧ e.instruments.length ≤ 128 ∧ ∀ p ∈ e.instruments, p.2.valid = true

theorem ensures_readBank (cfg : Config) (hd : BankHeader) (i : Nat) :
    Ensures (LawfulOfKind .unsupportedFileFormat) (IsBankEntry i) (readBank cfg file hd i) := by
  have htable := tableOffset_ge hd
  unfold readBank
  refine (ensures_bankLabel file hd i).bind fun label hlabel => ?_
  have hslots := Ensures.mapM (l := List.range 128) (f := fun pos => readRecord cfg file (recordOffset hd i pos) pos)
    (fun pos _ => ensures_readRecord file cfg pos (by unfold recordOffset; omega))
  refine hslots.bind fun slots hall => ⟨hlabel, ?_, ?_⟩
  · calc (slots.filterMap id).length
      _ ≤ slots.length := List.length_filterMap_le ..
      _ = 128 := by rw [← hall.length_eq, List.length_range]
  · intro p hp
    obtain ⟨slot, hslot, hkept⟩ := List.mem_filterMap.mp hp
    obtain ⟨_, _, hvalid⟩ := exists_of_mem_forall₂ hall hslot
    exact hvalid p hkept

/-- R43: banks in index order have distinct labels. -/
theorem bankWf_of_forall₂ {indices : List Nat} {b : Bank} (hnodup : indices.Nodup)
    (h : List.Forall₂ IsBankEntry indices b) : bankWf b := by
  constructor
  · have hindices : indices = b.map (labelIndex ∘ BankEntry.label) := by
      rw [← List.forall₂_eq_eq_eq, List.forall₂_map_right_iff]
      exact h.imp fun i e he => he.1.symm
    refine List.Nodup.of_map labelIndex ?_
    rwa [List.map_map, ← hindices]
  · intro e he
    obtain ⟨_, _, _, hbounds⟩ := exists_of_mem_forall₂ h he
    exact hbounds

theorem ensures_bfParse (cfg : Config) :
    Ensures (LawfulOfKind .unsupportedFileFormat) bankWf (bfParse cfg file) := by
  unfold bfParse
  refine (ensures_readHeader file).bind fun hd _ => ?_
  split
  · have := tableOffset_ge hd
    exact lawful_truncated (by unfold neededLength; omega)
  · exact (Ensures.mapM fun i _ => ensures_readBank file cfg hd i).mono (fun _ he => he)
      fun b hb => bankWf_of_forall₂ List.nodup_range hb

end BankFile

/-! The invariant (R96, R97, R43, R144, R191, R272 to R274): an operation's response is lawful, and a frame
gives none. -/

theorem LawfulOfKind.wf {k : ErrorKind} {e : ErrorInfo} (h : LawfulOfKind k e) : e.wf := h.2

theorem ensures_checkLength (cfg : Config) (data : Bytes) :
    Ensures ErrorInfo.wf (fun _ => True) (checkLength cfg data) := by
  rcases checkLength_eq cfg data with ⟨_, h⟩ | ⟨_, h⟩ <;> rw [h] <;> trivial

theorem ensures_operationResult {cfg : Config} {i : Instr} {result : Except ErrorInfo Value}
    (h : operationResult cfg i = some result) : Ensures ErrorInfo.wf Value.wf result := by
  cases i <;> cases h
  case bpEnc data => exact (ensures_checkLength cfg data).bind fun _ _ => trivial
  case bpDec data => exact (ensures_checkLength cfg data).bind fun _ _ => trivial
  case rcEnc ins => exact (ensures_rcEnc ins).bind fun _ hm => hm
  case rcDec img =>
    refine (ensures_checkLength cfg img).bind fun _ _ => ?_
    split
    · trivial
    · next m _ => exact valid_rcDec m
  case rcTriple fsel value => exact (ensures_rcTriple fsel value).bind fun _ ht => ht
  case mfBuildDump slot ins => exact (ensures_rcEnc ins).bind fun _ _ => trivial
  case mfBuildParam slot fsel value => exact (ensures_rcTriple fsel value).bind fun _ _ => trivial
  case mfBuildReq slot => trivial
  case mfBuildResp slot ins => exact (ensures_rcEnc ins).bind fun _ _ => trivial
  case mfParse data =>
    refine (ensures_checkLength cfg data).bind fun _ _ => ?_
    exact ((ensures_mfParse data).mono (fun _ => LawfulOfKind.wf) fun _ hp => hp).bind fun _ hp => hp
  case bfParse file =>
    refine (ensures_checkLength cfg file).bind fun _ _ => ?_
    exact ((ensures_bfParse file cfg).mono (fun _ => LawfulOfKind.wf) fun _ hb => hb).bind fun _ hb => hb

theorem State.Inv.respond {s : State} (hinv : s.Inv) {r : Response} (hr : r.wf) : (s.respond r).Inv := by
  intro x hx
  rcases List.mem_append.mp hx with hx | hx
  · exact hinv x hx
  · rwa [List.mem_singleton.mp hx]

theorem State.Inv.answer {s : State} (hinv : s.Inv) {result : Except ErrorInfo Value}
    (h : Ensures ErrorInfo.wf Value.wf result) : (s.answer result).Inv := by
  cases result with
  | ok v => exact hinv.respond (r := .ok v) h
  | error e => exact hinv.respond (r := .err e) h

/-- R288: the receipt of a frame gives no response. -/
theorem responses_of_exec_frame {i : Instr} (hi : i.isBlockOperation = false) {s s' : State} (h : exec i s = .next s') :
    s'.responses = s.responses := by
  cases i <;> cases hi <;> cases h
  case frameParam slot reserved triple => split <;> rfl
  all_goals rfl

theorem exec_keeps_inv {i : Instr} {s s' : State} (hinv : s.Inv) (h : exec i s = .next s') : s'.Inv := by
  cases hi : i.isBlockOperation with
  | true =>
    obtain ⟨result, hresult⟩ := Option.isSome_iff_exists.mp ((isSome_operationResult s.cfg i).trans hi)
    rw [exec_of_operationResult hresult] at h
    cases h
    exact hinv.answer (ensures_operationResult hresult)
  | false =>
    rw [State.Inv, responses_of_exec_frame hi h]
    exact hinv

theorem undecoded_keeps_inv {s : State} (hinv : s.Inv) {p : Packet} {e : ErrorInfo} (h : decode p = .error e) :
    (s.undecoded p e).Inv := by
  cases p with
  | request r =>
    refine hinv.respond (r := .err e) ?_
    rw [decodeRequest_error h]
    trivial
  | frame b => exact hinv

/-- Settles O9: what a step adds to the response port is one operation's answer, or the answer to an unknown code. -/
theorem everyStepKeepsResponsesLawful : Obligations.EveryStepKeepsResponsesLawful := by
  intro s s' hinv hstep
  rcases step_cases s with ⟨_, h⟩ | ⟨r, rest, _, h⟩ | ⟨p, rest, e, _, hdec, h⟩ | ⟨p, rest, i, _, _, h⟩
  · rw [h] at hstep
    cases hstep
    exact hinv
  · rw [h] at hstep
    cases hstep
    exact fun x hx => absurd hx List.not_mem_nil
  · rw [h] at hstep
    cases hstep
    exact undecoded_keeps_inv (s := { s with events := rest }) hinv hdec
  · rw [h] at hstep
    exact exec_keeps_inv (s := { s with events := rest }) hinv hstep

/-! The length bound (R83). -/

/-- R83: the operations with a Bytes operand. -/
def bytesOperations (data : Bytes) : List Instr := [.bpEnc data, .bpDec data, .rcDec data, .mfParse data, .bfParse data]

/-- An operation with a Bytes operand tests its length first, and nothing after that is answered TooLong. -/
theorem exists_operationResult_of_bytes {data : Bytes} {i : Instr} (hi : i ∈ bytesOperations data) (cfg : Config) :
    ∃ rest, operationResult cfg i = some (checkLength cfg data >>= fun _ => rest)
      ∧ Ensures (· ≠ .illegalRequest .tooLong) (fun _ => True) rest := by
  have hkind : ∀ k, k ≠ ErrorKind.illegalRequest → ∀ e, LawfulOfKind k e → e ≠ .illegalRequest .tooLong := by
    rintro k hk e ⟨rfl, _⟩ rfl
    exact hk rfl
  simp only [bytesOperations, List.mem_cons, List.not_mem_nil, or_false] at hi
  rcases hi with rfl | rfl | rfl | rfl | rfl
  · exact ⟨_, rfl, trivial⟩
  · exact ⟨_, rfl, trivial⟩
  · refine ⟨_, rfl, ?_⟩
    split
    · exact fun h => by cases h
    · trivial
  · exact ⟨_, rfl, ((ensures_mfParse data).mono (hkind _ (by decide)) fun _ _ => trivial).bind fun _ _ => trivial⟩
  · exact ⟨_, rfl, ((ensures_bfParse data cfg).mono (hkind _ (by decide)) fun _ _ => trivial).bind fun _ _ => trivial⟩

/-- Settles O16: the length test answers TooLong, or passes and leaves the answer to the rest of the operation. -/
theorem overlongOperandIsRefused : Obligations.OverlongOperandIsRefused := by
  constructor
  · intro s data n hmax hlong i hi
    obtain ⟨rest, hresult, _⟩ := exists_operationResult_of_bytes hi s.cfg
    have hrefused : ¬ s.cfg.accepts data := fun hacc => absurd (hacc n hmax) (Nat.not_le.mpr hlong)
    rw [exec_of_operationResult hresult, checkLength_of_not_accepts hrefused]
    rfl
  · intro s data hacc i hi
    obtain ⟨rest, hresult, hrest⟩ := exists_operationResult_of_bytes hi s.cfg
    rw [checkLength_of_accepts hacc] at hresult
    rw [exec_of_operationResult hresult]
    cases rest with
    | ok v => exact ⟨.ok v, rfl, by simp⟩
    | error e => exact ⟨.err e, rfl, fun h => hrest (Response.err.inj h)⟩

end Sys2Proof.Machine

/-! ### The statements about the BitPacker (40_bitpacker.md): the round trip, canonical encodings, the decoding byte by byte -/

namespace Sys2Proof.Machine

/-! Whole groups at the front are cut as they would be alone (R128). -/

theorem groups_append_of_mod_eq_zero {size : Nat} (hs : 0 < size) {y : Bytes} (z : Bytes)
    (hy : y.length % size = 0) : groups size (y ++ z) = groups size y ++ groups size z := by
  induction y using bytes_group_induction size hs with
  | empty => simp [groups_nil size hs]
  | short grp hpos hlt =>
    rw [Nat.mod_eq_of_lt hlt] at hy
    omega
  | whole grp rest hlen ih =>
    have hrest : rest.length % size = 0 := by simpa [hlen] using hy
    rw [List.append_assoc, groups_append size hs grp _ hlen, groups_append size hs grp _ hlen, ih hrest,
      List.cons_append]

theorem bpEnc_append {a : Bytes} (c : Bytes) (h : a.length % 7 = 0) : bpEnc (a ++ c) = bpEnc a ++ bpEnc c := by
  simp only [bpEnc, groups_append_of_mod_eq_zero (by decide) c h, List.flatMap_append]

theorem bpDec_append {y : Bytes} (z : Bytes) (h : y.length % 8 = 0) : bpDec (y ++ z) = bpDec y ++ bpDec z := by
  simp only [bpDec, groups_append_of_mod_eq_zero (by decide) z h, List.flatMap_append]

/-! A decoded group, byte by byte (R121, R127). -/

/-- R121: byte `j` of a decoded group is body byte `j` with header bit `6 - j` ORed into its bit 7. -/
theorem getElem?_decodeGroup (h : Byte) (body : Bytes) (j : Nat) :
    (decodeGroup (h :: body))[j]? = (body[j]?).map fun b => b ||| (boolByte (h.getLsbD (6 - j)) <<< 7) := by
  simp only [decodeGroup, List.getElem?_map, List.getElem?_zipIdx, Option.map_map, Nat.zero_add]
  rfl

theorem or_boolByte_shiftLeft_seven (b : Byte) (c : Bool) :
    b ||| (boolByte c <<< 7) = if c then b ||| 0x80 else b := by
  cases c with
  | false => exact BitVec.or_zero
  | true => rfl

/-- R127: a group's decoding reads no other header bits than those of the body bytes present. -/
theorem decodeGroup_congr {h h' : Byte} {body : Bytes}
    (hbits : ∀ j, j < body.length → h.getLsbD (6 - j) = h'.getLsbD (6 - j)) :
    decodeGroup (h :: body) = decodeGroup (h' :: body) := by
  refine List.ext_getElem? fun j => ?_
  rw [getElem?_decodeGroup, getElem?_decodeGroup]
  rcases Nat.lt_or_ge j body.length with hj | hj
  · rw [hbits j hj]
  · rw [List.getElem?_eq_none hj, Option.map_none, Option.map_none]

theorem getLsbD_seven_or_boolByte (b : Byte) (c : Bool) :
    (b ||| (boolByte c <<< 7)).getLsbD 7 = (b.getLsbD 7 || c) := by
  rw [BitVec.getLsbD_or, getLsbD_boolByte_shiftLeft c (by decide), decide_eq_true rfl, Bool.true_and]

/-- Bit 7 of a decoded byte is that of the body byte or the header's bit for it. -/
theorem highBit_decodeGroup (h : Byte) (body : Bytes) (i : Nat) :
    highBit (decodeGroup (h :: body)) i = (decide (i < body.length) && (highBit body i || h.getLsbD (6 - i))) := by
  rw [highBit, highBit, getElem?_decodeGroup]
  rcases Nat.lt_or_ge i body.length with hi | hi
  · rw [List.getElem?_eq_getElem hi, decide_eq_true hi, Bool.true_and]
    exact getLsbD_seven_or_boolByte _ _
  · rw [List.getElem?_eq_none hi, decide_eq_false (by omega), Bool.false_and]
    rfl

/-! A decoded sequence, group by group (R121, R124). -/

/-- What a full or last group decodes to stands in front of what the bytes after it decode to. -/
theorem bpDec_cons_append {h : Byte} {body after : Bytes} (hbody : body.length ≤ 7)
    (hlast : body.length = 7 ∨ after = []) :
    bpDec (h :: body ++ after) = decodeGroup (h :: body) ++ bpDec after := by
  rcases hlast with hfull | rfl
  · exact bpDec_group_append _ _ (by simp [hfull])
  · rw [List.append_nil, bpDec_nil, List.append_nil]
    exact bpDec_short _ (by simp) (by rw [List.length_cons]; omega)

/-- The decoding of a nonempty sequence is that of its first group, and then that of the rest. -/
theorem bpDec_cons (h : Byte) (rest : Bytes) :
    bpDec (h :: rest) = decodeGroup (h :: rest.take 7) ++ bpDec (rest.drop 7) := by
  have hlast : (rest.take 7).length = 7 ∨ rest.drop 7 = [] := by
    rw [List.length_take, List.drop_eq_nil_iff]
    omega
  rw [← bpDec_cons_append (List.length_take_le 7 rest) hlast, List.cons_append, List.take_append_drop]

/-- R124. -/
theorem length_bpDec (data : Bytes) : (bpDec data).length = data.length - (data.length + 7) / 8 := by
  induction data using bytes_group_induction 8 (by decide) with
  | empty => simp
  | short grp hpos hlt =>
    rw [bpDec_short grp hpos hlt.le, length_decodeGroup]
    omega
  | whole grp rest hlen ih =>
    rw [bpDec_group_append grp rest hlen, List.length_append, List.length_append, length_decodeGroup, ih]
    omega

/-- R128: from byte `7g` on, a decoding is the decoding of the bytes from group `g` on. -/
theorem drop_bpDec {data : Bytes} {g : Nat} (h : 8 * g ≤ data.length) :
    (bpDec data).drop (7 * g) = bpDec (data.drop (8 * g)) := by
  have htake : (data.take (8 * g)).length = 8 * g := List.length_take_of_le h
  have hfront : (bpDec (data.take (8 * g))).length = 7 * g := by
    rw [length_bpDec, htake]
    omega
  calc (bpDec data).drop (7 * g)
    _ = (bpDec (data.take (8 * g)) ++ bpDec (data.drop (8 * g))).drop (7 * g) := by
      rw [← bpDec_append _ (by rw [htake, Nat.mul_mod_right]), List.take_append_drop]
    _ = bpDec (data.drop (8 * g)) := by rw [← hfront, List.drop_left]

/-- R121: byte `7g + j` of a decoding comes from the header and body byte `j` of group `g`. -/
theorem getElem?_bpDec {data : Bytes} {g j : Nat} {h b : Byte} (hj : j < 7) (hh : data[8 * g]? = some h)
    (hb : data[8 * g + 1 + j]? = some b) :
    (bpDec data)[7 * g + j]? = some (b ||| (boolByte (h.getLsbD (6 - j)) <<< 7)) := by
  obtain ⟨hg, rfl⟩ := List.getElem?_eq_some_iff.mp hh
  have hbody : ((data.drop (8 * g + 1)).take 7)[j]? = some b := by
    rw [List.getElem?_take_of_lt hj, List.getElem?_drop, hb]
  have hdecoded := getElem?_decodeGroup data[8 * g] ((data.drop (8 * g + 1)).take 7) j
  rw [hbody, Option.map_some] at hdecoded
  have hinGroup := (List.getElem?_eq_some_iff.mp hdecoded).1
  rw [← List.getElem?_drop, drop_bpDec hg.le, List.drop_eq_getElem_cons hg, bpDec_cons,
    List.getElem?_append_left hinGroup, hdecoded]

/-! Canonical encodings (R126). The conditions on a sequence are conditions on its groups, and for a group they say that
encoding gives back what decoding took apart. -/

/-- R126: the conditions of an output of BP.ENC. -/
def IsCanonical (y : Bytes) : Prop :=
  y.length % 8 ≠ 1 ∧ (∀ b ∈ y, b.getLsbD 7 = false)
    ∧ ∀ k, 1 ≤ k → y.length % 8 = k + 1 → ∀ h, y[8 * (y.length / 8)]? = some h → ∀ t, t + k ≤ 6 → h.getLsbD t = false

/-- R126 for one group: bit 7 of each byte and the header bits of absent body bytes are clear. -/
def IsCanonicalGroup (h : Byte) (body : Bytes) : Prop :=
  (∀ b ∈ h :: body, b.getLsbD 7 = false) ∧ ∀ t, t + body.length ≤ 6 → h.getLsbD t = false

/-- A full group has no absent body bytes. -/
theorem isCanonicalGroup_of_full {h : Byte} {body : Bytes} (hfull : body.length = 7) :
    IsCanonicalGroup h body ↔ ∀ b ∈ h :: body, b.getLsbD 7 = false :=
  and_iff_left fun t ht => absurd ht (by omega)

theorem isCanonical_nil : IsCanonical [] := by
  refine ⟨by decide, by simp, fun k _ hk => ?_⟩
  rw [List.length_nil] at hk
  omega

theorem not_isCanonical_singleton (h : Byte) : ¬ IsCanonical [h] := fun hc => hc.1 rfl

/-- A short group by itself. -/
theorem isCanonical_cons {h : Byte} {body : Bytes} (hpos : 0 < body.length) (hlt : body.length < 7) :
    IsCanonical (h :: body) ↔ IsCanonicalGroup h body := by
  have hmod : (h :: body).length % 8 = body.length + 1 := by rw [List.length_cons]; omega
  have hdiv : (h :: body).length / 8 = 0 := by rw [List.length_cons]; omega
  rw [IsCanonical, IsCanonicalGroup, hmod, hdiv]
  constructor
  · rintro ⟨_, hbit7, habsent⟩
    exact ⟨hbit7, habsent body.length hpos rfl h rfl⟩
  · rintro ⟨hbit7, habsent⟩
    refine ⟨by omega, hbit7, fun k _ hk h' hh' t ht => ?_⟩
    obtain rfl : h = h' := Option.some.inj hh'
    exact habsent t (by omega)

/-- A whole group at the front moves the last group on by eight bytes. -/
theorem isCanonical_group_append {grp : Bytes} (rest : Bytes) (hlen : grp.length = 8) :
    IsCanonical (grp ++ rest) ↔ (∀ b ∈ grp, b.getLsbD 7 = false) ∧ IsCanonical rest := by
  have hmod : (grp ++ rest).length % 8 = rest.length % 8 := by rw [List.length_append]; omega
  have hheader : (grp ++ rest)[8 * ((grp ++ rest).length / 8)]? = rest[8 * (rest.length / 8)]? := by
    rw [List.getElem?_append_right (by rw [List.length_append]; omega), List.length_append, hlen]
    congr 1
    omega
  simp only [IsCanonical, hmod, hheader, List.forall_mem_append]
  tauto

theorem low7_or_of_getLsbD_seven : ∀ (b : Byte) (c : Bool), b.getLsbD 7 = false →
    (b ||| (boolByte c <<< 7)) &&& 0x7F = b := by decide

/-- The header of a canonical group is rebuilt from the high bits it was decoded to. -/
theorem groupHeader_decodeGroup {h : Byte} {body : Bytes} (hbody : body.length ≤ 7) (hc : IsCanonicalGroup h body) :
    groupHeader (decodeGroup (h :: body)) = h := by
  obtain ⟨hbit7, habsent⟩ := hc
  have hhigh : ∀ i, highBit body i = false := by
    intro i
    rcases Nat.lt_or_ge i body.length with hi | hi
    · simpa [highBit, hi] using hbit7 body[i] (List.mem_cons_of_mem h (List.getElem_mem hi))
    · simp [highBit, hi]
  refine BitVec.eq_of_getLsbD_eq fun k hk => ?_
  rw [getLsbD_groupHeader (by simpa using hbody), highBit_decodeGroup, hhigh, Bool.false_or]
  rcases Nat.lt_or_ge 6 k with hk7 | hk6
  · obtain rfl : k = 7 := by omega
    rw [hbit7 h List.mem_cons_self]
    rfl
  · rw [show 6 - (6 - k) = k by omega]
    rcases Nat.lt_or_ge (6 - k) body.length with hpresent | habs
    · simp [hk6, hpresent]
    · rw [habsent k (by omega), Bool.and_false, Bool.and_false]

/-- The body of a canonical group is the low 7 bits of what it was decoded to. -/
theorem map_low7_decodeGroup {h : Byte} {body : Bytes} (hbit7 : ∀ b ∈ body, b.getLsbD 7 = false) :
    (decodeGroup (h :: body)).map (· &&& 0x7F) = body := by
  refine List.ext_getElem (by simp) fun j h₁ h₂ => ?_
  simp only [decodeGroup, List.getElem_map, List.getElem_zipIdx]
  exact low7_or_of_getLsbD_seven _ _ (hbit7 _ (List.getElem_mem h₂))

/-- R126 for one group. -/
theorem encodeGroup_decodeGroup_iff {h : Byte} {body : Bytes} (hbody : body.length ≤ 7) :
    encodeGroup (decodeGroup (h :: body)) = h :: body ↔ IsCanonicalGroup h body := by
  have hshort : (decodeGroup (h :: body)).length ≤ 7 := by simpa using hbody
  constructor
  · intro heq
    have hheader : groupHeader (decodeGroup (h :: body)) = h := (List.cons.inj heq).1
    refine ⟨fun b hb => getLsbD_seven_of_mem_encodeGroup hshort (by rwa [heq]), fun t ht => ?_⟩
    have habsent : ¬ 6 - t < body.length := by omega
    rw [← hheader, getLsbD_groupHeader hshort, highBit_decodeGroup, decide_eq_false habsent, Bool.false_and,
      Bool.and_false]
  · intro hc
    rw [encodeGroup, groupHeader_decodeGroup hbody hc,
      map_low7_decodeGroup fun b hb => hc.1 b (List.mem_cons_of_mem h hb)]

/-- R126: encoding gives back what was decoded from the canonical sequences and from no others. -/
theorem bpEnc_bpDec_iff (y : Bytes) : bpEnc (bpDec y) = y ↔ IsCanonical y := by
  induction y using bytes_group_induction 8 (by decide) with
  | empty => exact iff_of_true (by rw [bpDec_nil, bpEnc_nil]) isCanonical_nil
  | short grp hpos hlt =>
    obtain ⟨h, body, rfl⟩ := List.exists_cons_of_length_pos hpos
    have hbody : body.length < 7 := by rw [List.length_cons] at hlt; omega
    rw [bpDec_short _ hpos hlt.le]
    rcases Nat.eq_zero_or_pos body.length with hzero | hsome
    · obtain rfl := List.length_eq_zero_iff.mp hzero
      refine iff_of_false ?_ (not_isCanonical_singleton h)
      rw [show decodeGroup [h] = [] from rfl, bpEnc_nil]
      exact (List.cons_ne_nil h []).symm
    · rw [bpEnc_short _ (by simpa using hsome) (by simpa using hbody.le), encodeGroup_decodeGroup_iff hbody.le,
        isCanonical_cons hsome hbody]
  | whole grp rest hlen ih =>
    obtain ⟨h, body, rfl⟩ := List.exists_cons_of_length_pos (l := grp) (by omega)
    have hbody : body.length = 7 := by simpa using hlen
    rw [bpDec_group_append _ _ hlen, bpEnc_group_append _ _ (by simpa using hbody), isCanonical_group_append rest hlen,
      ← ih, ← isCanonicalGroup_of_full hbody, ← encodeGroup_decodeGroup_iff hbody.le]
    exact List.append_eq_append_iff_of_size_eq_left (by simp)

/-- Settles O20: the round trip was proved by induction over the groups of the input. -/
theorem bpDecInvertsBpEnc : Obligations.BpDecInvertsBpEnc := bpDec_bpEnc

/-- Settles O21: an output of BP.ENC is what its own decoding encodes to (R125), and those are the canonical sequences. -/
theorem canonicalEncodingsAreCharacterised : Obligations.CanonicalEncodingsAreCharacterised := by
  intro y
  have houtput : (∃ x, y = bpEnc x) ↔ bpEnc (bpDec y) = y := by
    constructor
    · rintro ⟨x, rfl⟩
      rw [bpDec_bpEnc]
    · exact fun heq => ⟨bpDec y, heq.symm⟩
  exact ⟨houtput.trans (bpEnc_bpDec_iff y), bpEnc_bpDec_iff y⟩

/-- Settles O18: the groups of the output are the decoded groups of the input. -/
theorem bpDecRebuildsEveryBodyByte : Obligations.BpDecRebuildsEveryBodyByte := by
  intro s data hacc
  have hresult : operationResult s.cfg (.bpDec data) = some (.ok (.bytes (bpDec data))) := by
    simp only [operationResult, checkLength_of_accepts hacc]; rfl
  refine ⟨bpDec data, exec_of_operationResult hresult, length_bpDec data, fun g j h b hj hh hb => ?_⟩
  rw [getElem?_bpDec hj hh hb, or_boolByte_shiftLeft_seven]

/-- Settles O19: bit 7 is clear in a header and in a body byte. -/
theorem bpEncIsSevenBitSafe : Obligations.BpEncIsSevenBitSafe := fun _ _ => getLsbD_seven_of_mem_bpEnc

/-- Settles O22: the group is decoded by itself, and its decoding reads only the bits on which the headers agree. -/
theorem bpDecIgnoresUnreadHeaderBits : Obligations.BpDecIgnoresUnreadHeaderBits := by
  intro before body after h h' hbefore hbody hlast hbits
  rw [List.append_assoc, List.append_assoc, bpDec_append _ hbefore, bpDec_append _ hbefore,
    bpDec_cons_append hbody hlast, bpDec_cons_append hbody hlast, decodeGroup_congr hbits]

/-- Settles O23: both operations cut whole groups at the front as they would be alone. -/
theorem bitPackerRespectsConcatenation : Obligations.BitPackerRespectsConcatenation :=
  ⟨fun _ c h => bpEnc_append c h, fun _ z h => bpDec_append z h⟩

end Sys2Proof.Machine

/-! ### The statements about the RegisterCodec (41_register_codec.md): round trips, range check, decoding, triples -/

namespace Sys2Proof.Machine

/-- Settles O27: RC.ENC of a valid instrument is its `imageOf`, and RC.DEC undoes that. -/
theorem rcDecInvertsRcEnc : Obligations.RcDecInvertsRcEnc :=
  fun ins h => ⟨imageOf ins, rcEnc_of_valid h, rcDec_imageOf h⟩

/-! The other direction (R146). -/

/-- R146: clearing is the identity exactly when the unused bits are 0. -/
theorem clearUnused_eq_self_iff (m : Image) :
    clearUnused m = m ↔ m[5] &&& 0xFC = 0 ∧ m[11] &&& 0xFC = 0 ∧ m[6] &&& 0xF0 = 0 := by
  have hlow2 : ∀ b : Byte, b &&& 0x03 = b ↔ b &&& 0xFC = 0 := by decide
  have hlow4 : ∀ b : Byte, b &&& 0x0F = b ↔ b &&& 0xF0 = 0 := by decide
  rw [← hlow2, ← hlow2, ← hlow4]
  constructor
  · intro h
    have hbyte : ∀ k (hk : k < 12), m[k] &&& usedBits[k] = m[k] := fun k hk => by rw [← getElem_clearUnused, h]
    exact ⟨hbyte 5 (by decide), hbyte 11 (by decide), hbyte 6 (by decide)⟩
  · rintro ⟨h5, h11, h6⟩
    rw [clearUnused_eq, h5, h6, h11]
    exact Vector.ext fun k hk => by interval_cases k <;> rfl

/-- Settles O28: every decoded instrument is valid, so it encodes, to the image with its unused bits cleared. -/
theorem rcEncOfDecodeClearsUnusedBits : Obligations.RcEncOfDecodeClearsUnusedBits := by
  intro m
  have henc : rcEnc (rcDec m) = .ok (clearUnused m) := by rw [rcEnc_of_valid (valid_rcDec m), imageOf_rcDec]
  refine ⟨henc, ?_⟩
  rw [henc, Except.ok.injEq, clearUnused_eq_self_iff]

/-! The range check (R140). -/

/-- R84: the selector of a field and its operator. -/
def selectorOf (fo : InsField × OpSel) : Byte := fo.1.fsel fo.2

/-- R140: an instrument is refused for the first field of `checkOrder` that is out of range. -/
theorem rcEnc_of_invalid {ins : Instrument} (h : ins.valid = false) :
    ∃ before fo after, checkOrder = before ++ fo :: after ∧ fo.1.inRange (ins.getField fo.1 fo.2) = false
      ∧ (∀ a ∈ before, a.1.inRange (ins.getField a.1 a.2) = true)
      ∧ rcEnc ins = .error (.invalidRange (selectorOf fo) (ins.getField fo.1 fo.2)) := by
  have hrefused : checkInstrument ins ≠ .ok () := fun hok => by simp [ins.valid_iff.mpr hok] at h
  unfold checkInstrument at hrefused
  split at hrefused
  · exact absurd rfl hrefused
  · next fo hfind =>
    obtain ⟨hfo, before, after, hsplit, hbefore⟩ := List.find?_eq_some_iff_append.mp hfind
    refine ⟨before, fo, after, hsplit, by simpa using hfo, by simpa using hbefore, ?_⟩
    simp only [rcEnc, checkInstrument, hfind]
    rfl

/-- What a field's selector names is that field: a shared field under OPSEL 0, with the same value. -/
theorem getField_of_ofFsel_selectorOf (ins : Instrument) {fo : InsField × OpSel} {g : InsField} {p : OpSel}
    (h : InsField.ofFsel (selectorOf fo) = some (g, p)) :
    g = fo.1 ∧ ins.getField g p = ins.getField fo.1 fo.2 := by
  have hsel : g.fsel p = fo.1.fsel fo.2 := fsel_of_ofFsel _ g p h
  exact ⟨(InsField.eq_of_fsel_eq g fo.1 p fo.2 hsel).1, ins.getField_of_fsel_eq hsel⟩

/-- Settles O24: the statement's selectors are those of `checkOrder`, and each operation answers with RC.ENC's error. -/
theorem firstFieldOutOfRangeIsReported : Obligations.FirstFieldOutOfRangeIsReported := by
  intro s ins q hinvalid
  obtain ⟨before, fo, after, hsplit, hfo, hbefore, herror⟩ := rcEnc_of_invalid hinvalid
  have hnamed : InsField.ofFsel (selectorOf fo) = some (fo.1, _) := ofFsel_fsel fo.1 fo.2
  obtain ⟨_, hget⟩ := getField_of_ofFsel_selectorOf ins hnamed
  have hselectors : ([0x00, 0x01, 0x07, 0x08, 0x09, 0x0A, 0x0B, 0x0C, 0x0D, 0x0E,
      0x17, 0x18, 0x19, 0x1A, 0x1B, 0x1C, 0x1D, 0x1E] : List Byte) = checkOrder.map selectorOf := by decide
  refine ⟨before.map selectorOf, after.map selectorOf, selectorOf fo, fo.1, _, ?_, hnamed, ?_, ?_, ?_⟩
  · rw [hselectors, hsplit, List.map_append, List.map_cons]
  · rw [hget, hfo]
  · intro x hx g p hg
    obtain ⟨a, ha, rfl⟩ := List.mem_map.mp hx
    obtain ⟨rfl, hgetA⟩ := getField_of_ofFsel_selectorOf ins hg
    rw [hgetA, hbefore a ha]
  · intro i hi
    have hresult : operationResult s.cfg i
        = some (.error (.invalidRange (selectorOf fo) (ins.getField fo.1 fo.2))) := by
      simp only [List.mem_cons, List.not_mem_nil, or_false] at hi
      rcases hi with rfl | rfl | rfl <;> simp only [operationResult, herror] <;> rfl
    rw [exec_of_operationResult hresult, hget]
    rfl

/-! RC.DEC (R143), each field as a quotient or a remainder of its byte. -/

theorem bits_eq_div_mod (b : Byte) (hi lo : Nat) : bits b hi lo = b.toNat / 2 ^ lo % 2 ^ (hi - lo + 1) := by
  rw [bits, Nat.shiftRight_eq_div_pow]

theorem bits_zero (b : Byte) (hi : Nat) : bits b hi 0 = b.toNat % 2 ^ (hi + 1) := rfl

/-- The top bits of a byte need no remainder. -/
theorem bits_seven (b : Byte) {lo : Nat} (h : lo ≤ 7) : bits b 7 lo = b.toNat / 2 ^ lo := by
  rw [bits_eq_div_mod, Nat.mod_eq_of_lt]
  rw [Nat.div_lt_iff_lt_mul (Nat.two_pow_pos lo), ← pow_add, show 7 - lo + 1 + lo = 8 by omega]
  exact b.isLt

theorem getLsbD_seven_eq_decide (b : Byte) : b.getLsbD 7 = decide (128 ≤ b.toNat) := by
  rw [getLsbD_eq_decide]
  exact decide_eq_decide.mpr (by omega)

theorem not_getLsbD_zero_eq_decide (b : Byte) : (!b.getLsbD 0) = decide (b.toNat % 2 = 0) := by
  rw [getLsbD_eq_decide, ← decide_not]
  exact decide_eq_decide.mpr (by omega)

theorem decodeOperator_eq (b0 b1 b2 b3 b4 : Byte) :
    decodeOperator b0 b1 b2 b3 b4 =
      { tremolo := decide (128 ≤ b0.toNat), vibrato := decide (b0.toNat / 64 % 2 = 1)
        sustaining := decide (b0.toNat / 32 % 2 = 1), envelopeScaling := decide (b0.toNat / 16 % 2 = 1)
        frequencyMultiplier := (b0.toNat % 16 : Nat)
        keyScale := (b1.toNat / 64 : Nat), outputLevel := 63 - (b1.toNat % 64 : Nat)
        attack := (b2.toNat / 16 : Nat), decay := (b2.toNat % 16 : Nat)
        sustain := 15 - (b3.toNat / 16 : Nat), release := (b3.toNat % 16 : Nat)
        waveform := (b4.toNat % 4 : Nat) } := by
  rw [decodeOperator, getLsbD_seven_eq_decide]
  simp only [getLsbD_eq_decide, bits_zero, bits_seven _ (show 4 ≤ 7 by decide), bits_seven _ (show 6 ≤ 7 by decide)]
  rfl

theorem imageOfBytes_of_length {b : Bytes} (h : b.length = 12) : ∃ m, imageOfBytes b = some m ∧ b = m.toList := by
  have hsome : imageOfBytes b = some ⟨b.toArray, h⟩ := by simp [imageOfBytes, h]
  exact ⟨_, hsome, imageOfBytes_eq_some hsome⟩

theorem getD_toList (m : Image) {k : Nat} (hk : k < 12) : m.toList.getD k 0 = m[k] := by
  simp [List.getD, hk]

/-- Settles O26: 12 bytes are an image, whose decoding is valid and reads its fields byte by byte. -/
theorem rcDecExtractsEveryField : Obligations.RcDecExtractsEveryField := by
  intro s img hacc
  constructor
  · intro hlength
    obtain ⟨m, hsome, rfl⟩ := imageOfBytes_of_length hlength
    have hresult : operationResult s.cfg (.rcDec m.toList) = some (.ok (.instrument (rcDec m))) := by
      simp only [operationResult, checkLength_of_accepts hacc, hsome]; rfl
    refine ⟨rcDec m, exec_of_operationResult hresult, valid_rcDec m, ?_⟩
    intro u reads
    have hu : ∀ k (hk : k < 12), u k = m[k].toNat := fun k hk => congrArg BitVec.toNat (getD_toList m hk)
    have hreads : ∀ base (hbase : base + 4 < 12),
        reads (decodeOperator m[base] m[base + 1] m[base + 2] m[base + 3] m[base + 4]) base := by
      intro base hbase
      simp only [reads, decodeOperator_eq, hu _ hbase, hu base (by omega), hu (base + 1) (by omega),
        hu (base + 2) (by omega), hu (base + 3) (by omega), and_self]
    rw [hu 0 (by decide), hu 6 (by decide)]
    exact ⟨rfl, congrArg _ (bits_eq_div_mod m[6] 3 1), not_getLsbD_zero_eq_decide m[6],
      hreads 1 (by decide), hreads 7 (by decide)⟩
  · intro hlength
    have hresult : operationResult s.cfg (.rcDec img) = some (.error (.illegalRequest .badImageLength)) := by
      simp only [operationResult, checkLength_of_accepts hacc, imageOfBytes_eq_none hlength]; rfl
    rw [exec_of_operationResult hresult]
    rfl

/-! The table of RC.TRIPLE (R147). -/

/-- R147: the fields in the order of the rule's table, an operator's field in its two columns. -/
def tableFields : List (InsField × OpSel) :=
  [(.drumChannel, .modulator), (.feedback, .modulator), (.frequencyModulation, .modulator)]
    ++ operatorFields.flatMap fun f => [(f, .modulator), (f, .carrier)]

/-- R147: a row of the table: selector, offset, mask, largest value, value byte as an integer. -/
def tableRow (fo : InsField × OpSel) : Byte × Byte × Byte × Int × (Int → Int) :=
  (selectorOf fo, BitVec.ofNat 8 (fo.1.offset fo.2), 0xFF ^^^ fo.1.fmask, fo.1.maxValue,
    fun v => fo.1.stored v * 2 ^ fo.1.lo)

theorem byteOfInt_shiftLeft (v : Int) (n : Nat) : byteOfInt v <<< n = BitVec.ofInt 8 (v * 2 ^ n) := by
  have htwoPow : BitVec.ofInt 8 (2 ^ n : Nat) = BitVec.twoPow 8 n :=
    BitVec.eq_of_toNat_eq (by rw [BitVec.ofInt_natCast, BitVec.toNat_ofNat, BitVec.toNat_twoPow])
  rw [BitVec.shiftLeft_eq_mul_twoPow, ← htwoPow, byteOfInt, ← BitVec.ofInt_mul]
  push_cast
  rfl

/-- A field's triple is its row of the table. -/
theorem tripleOf_eq_tableRow (fo : InsField × OpSel) (v : Int) :
    tripleOf fo.1 fo.2 v = ⟨(tableRow fo).2.1, (tableRow fo).2.2.1, BitVec.ofInt 8 ((tableRow fo).2.2.2.2 v)⟩ := by
  rw [tripleOf, byteOfInt_shiftLeft]
  rfl

/-- R86: the table holds every legal selector. -/
theorem ofFsel_eq_none_of_notMem_tableFields {fsel : Byte} (h : fsel ∉ tableFields.map selectorOf) :
    InsField.ofFsel fsel = none := by
  cases hsome : InsField.ofFsel fsel with
  | none => rfl
  | some fo =>
    obtain ⟨f, op⟩ := fo
    have hmem : selectorOf (f, op) ∈ tableFields.map selectorOf := by
      cases f <;> cases op <;> decide
    have hsel : selectorOf (f, op) = fsel := fsel_of_ofFsel fsel f op hsome
    exact absurd (hsel ▸ hmem) h

theorem rcTriple_selectorOf_of_outOfRange {fo : InsField × OpSel} {v : Int} (hv : fo.1.inRange v = false) :
    rcTriple (selectorOf fo) v = .error (.invalidRange (selectorOf fo) v) := by
  rw [rcTriple, selectorOf, ofFsel_fsel]
  simp [hv]

section ExecRcTriple

variable {fsel : Byte} {v : Int} (s : State)

theorem exec_rcTriple_of_ok {t : Triple} (h : rcTriple fsel v = .ok t) :
    exec (.rcTriple fsel v) s = .next (s.respond (.ok (.triple t))) := by
  have hresult : operationResult s.cfg (.rcTriple fsel v) = some (.ok (.triple t)) := by
    simp only [operationResult, h]; rfl
  exact exec_of_operationResult hresult

theorem exec_rcTriple_of_error {e : ErrorInfo} (h : rcTriple fsel v = .error e) :
    exec (.rcTriple fsel v) s = .next (s.respond (.err e)) := by
  have hresult : operationResult s.cfg (.rcTriple fsel v) = some (.error e) := by
    simp only [operationResult, h]; rfl
  exact exec_of_operationResult hresult

end ExecRcTriple

/-- Settles O29: the statement's rows are `tableRow` of the fields, and RC.TRIPLE answers by the row of its selector. -/
theorem rcTripleFollowsTheTable : Obligations.RcTripleFollowsTheTable := by
  unfold Obligations.RcTripleFollowsTheTable
  intro rows s v
  have hrows : rows = tableFields.map tableRow := by
    simp only [rows, tableFields, operatorFields, List.flatMap_cons, List.flatMap_nil, List.cons_append,
      List.nil_append, List.map_cons, List.map_nil, tableRow, InsField.stored, InsField.lo, pow_zero, mul_one]
    rfl
  have hselectors : rows.map (·.1) = tableFields.map selectorOf := by
    rw [hrows, List.map_map]
    rfl
  refine ⟨fun row hrow hlo hhi => ?legal, fun row hrow hout => ?outOfRange, fun fsel hfsel => ?illegal⟩
  case legal =>
    obtain ⟨fo, _, rfl⟩ := List.mem_map.mp (hrows ▸ hrow)
    have hv : fo.1.inRange v = true := (inRange_iff fo.1 v).mpr ⟨hlo, hhi⟩
    rw [← tripleOf_eq_tableRow]
    exact exec_rcTriple_of_ok s (rcTriple_fsel fo.2 hv)
  case outOfRange =>
    obtain ⟨fo, _, rfl⟩ := List.mem_map.mp (hrows ▸ hrow)
    have hbounds : v < 0 ∨ fo.1.maxValue < v := hout
    have hv : fo.1.inRange v = false := by
      rw [Bool.eq_false_iff, Ne, inRange_iff]
      omega
    exact exec_rcTriple_of_error s (rcTriple_selectorOf_of_outOfRange hv)
  case illegal =>
    have hnone := ofFsel_eq_none_of_notMem_tableFields (hselectors ▸ hfsel)
    exact exec_rcTriple_of_error s (rcTriple_of_illegal hnone v)

/-! The laws of the triple (R148 to R150). -/

theorem rcTriple_of_ofFsel {fsel : Byte} {f : InsField} {op : OpSel} {v : Int}
    (hsel : InsField.ofFsel fsel = some (f, op)) (hv : f.inRange v = true) :
    rcTriple fsel v = .ok (tripleOf f op v) := by
  rw [← fsel_of_ofFsel fsel f op hsel, rcTriple_fsel op hv]

theorem exists_of_rcTriple_eq_ok {fsel : Byte} {v : Int} {t : Triple} (h : rcTriple fsel v = .ok t) :
    ∃ f op, InsField.ofFsel fsel = some (f, op) ∧ f.inRange v = true ∧ t = tripleOf f op v := by
  rcases rcTriple_cases fsel v with ⟨_, herror⟩ | ⟨f, op, hsel, ⟨hrange, hok⟩ | ⟨_, herror⟩⟩
  · rw [herror] at h; cases h
  · rw [hok] at h; cases h
    exact ⟨f, op, hsel, hrange, rfl⟩
  · rw [herror] at h; cases h

/-- R148: on a valid instrument's image the update of a field's triple gives the changed instrument's image. -/
theorem rcEnc_setField {ins : Instrument} (h : ins.valid = true) {f : InsField} (op : OpSel) {v : Int}
    (hv : f.inRange v = true) :
    rcEnc (ins.setField f op v) = .ok (applyTriple (imageOf ins) (tripleOf f op v)) := by
  have hdec : rcDec (applyTriple (imageOf ins) (tripleOf f op v)) = ins.setField f op v := by
    rw [rcDec_applyTriple op hv, rcDec_imageOf h]
  have hclear := clearUnused_applyTriple op hv (clearUnused_imageOf h)
  rw [← hdec, rcEnc_of_valid (valid_rcDec _), imageOf_rcDec, hclear]

/-- Settles O31: the changed instrument's image is the update of the baseline's. -/
theorem tripleMatchesEncodeOfChangedInstrument : Obligations.TripleMatchesEncodeOfChangedInstrument := by
  intro b fsel v f op hb hsel hv
  have hoffset := toNat_offset_tripleOf f op v
  refine ⟨imageOf b, applyTriple (imageOf b) (tripleOf f op v), tripleOf f op v, ⟨f.offset op, offset_lt f op⟩,
    rcEnc_of_valid hb, rcEnc_setField hb op hv, rcTriple_of_ofFsel hsel hv, hoffset, ?_, fun k hk => ?_⟩
  · rw [getElem_applyTriple, if_pos hoffset]
  · have hother : (tripleOf f op v).offset.toNat ≠ k.val := fun h => hk (Fin.ext (h.symm.trans hoffset))
    rw [getElem_applyTriple, if_neg hother]

/-- Settles O32: the field is set by `rcDec_applyTriple`; outside its mask, its byte keeps its bits. -/
theorem tripleSetsItsFieldOnAnyImage : Obligations.TripleSetsItsFieldOnAnyImage := by
  intro m fsel v f op hsel hv
  refine ⟨tripleOf f op v, rcTriple_of_ofFsel hsel hv, rcDec_applyTriple op hv m, fun k => ?_⟩
  rw [getElem_applyTriple, toNat_offset_tripleOf]
  by_cases hk : f.offset op = k.val
  · rw [if_pos hk, if_pos hk.symm]
    exact update_and_disjoint (value_tripleOf_and_fmask op hv) (BitVec.and_not_self _)
  · rw [if_neg hk]

/-! Two updates of one byte, first under the mask `F` and then under `G`. -/

section TwoUpdates

variable {b w w' F G : Byte}

theorem update_comm (hw : w &&& F = w) (hw' : w' &&& G = w') (hdisjoint : F &&& G = 0) :
    (((b &&& (0xFF ^^^ F)) ||| w) &&& (0xFF ^^^ G)) ||| w'
      = (((b &&& (0xFF ^^^ G)) ||| w') &&& (0xFF ^^^ F)) ||| w := by
  rw [complement_eq_not, complement_eq_not]
  ext j hj
  have hbit := congrArg (fun x : Byte => x[j]) hw
  have hbit' := congrArg (fun x : Byte => x[j]) hw'
  have hdisjointBit := congrArg (fun x : Byte => x[j]) hdisjoint
  simp at hbit hbit' hdisjointBit ⊢
  grind

theorem update_update (hw : w &&& F = w) :
    (((b &&& (0xFF ^^^ F)) ||| w) &&& (0xFF ^^^ F)) ||| w' = (b &&& (0xFF ^^^ F)) ||| w' := by
  rw [BitVec.and_or_distrib_right, and_complement_of_and_eq hw, BitVec.and_assoc, BitVec.and_self]
  simp

end TwoUpdates

section TwoTriples

variable {f g : InsField} {op p : OpSel} {v w : Int}

/-- R150: triples for different fields commute; in a byte they share, because their masks are disjoint. -/
theorem applyTriple_comm (hv : f.inRange v = true) (hw : g.inRange w = true) (hfield : f.fsel op ≠ g.fsel p)
    (m : Image) : applyTriple (applyTriple m (tripleOf f op v)) (tripleOf g p w)
      = applyTriple (applyTriple m (tripleOf g p w)) (tripleOf f op v) := by
  refine Vector.ext fun k hk => ?_
  simp only [getElem_applyTriple, toNat_offset_tripleOf]
  by_cases hf : f.offset op = k <;> by_cases hg : g.offset p = k <;> simp only [hf, hg, if_true, if_false]
  exact update_comm (value_tripleOf_and_fmask op hv) (value_tripleOf_and_fmask p hw)
    (InsField.fmask_disjoint (hf.trans hg.symm) hfield)

/-- R150: of two triples for one field the later wins. -/
theorem applyTriple_applyTriple (hv : f.inRange v = true) (m : Image) :
    applyTriple (applyTriple m (tripleOf f op v)) (tripleOf f op w) = applyTriple m (tripleOf f op w) := by
  refine Vector.ext fun k hk => ?_
  simp only [getElem_applyTriple, toNat_offset_tripleOf]
  split
  · exact update_update (value_tripleOf_and_fmask op hv)
  · rfl

/-- A triple's value can be read back from the image it was applied to. -/
theorem applyTriple_injective (hv : f.inRange v = true) (hw : f.inRange w = true) {m : Image}
    (h : applyTriple m (tripleOf f op v) = applyTriple m (tripleOf f op w)) : v = w := by
  have hget := congrArg (fun m' => (rcDec m').getField f op) h
  simpa [rcDec_applyTriple op hv, rcDec_applyTriple op hw, Instrument.getField_setField, hv, hw] using hget

end TwoTriples

/-- Settles O33: one selector names one field, and the image after its triple shows the triple's value. -/
theorem triplesOfDifferentFieldsCommute : Obligations.TriplesOfDifferentFieldsCommute := by
  intro m fsel fsel' v v' t t' ht ht'
  obtain ⟨f, op, hsel, hv, rfl⟩ := exists_of_rcTriple_eq_ok ht
  obtain ⟨g, p, hsel', hv', rfl⟩ := exists_of_rcTriple_eq_ok ht'
  refine ⟨fun hne => ?different, fun hsame => ?laterWins, fun hsame hne hcomm => ?sameField⟩
  case different =>
    rw [← fsel_of_ofFsel fsel f op hsel, ← fsel_of_ofFsel fsel' g p hsel'] at hne
    exact applyTriple_comm hv hv' hne m
  case laterWins =>
    subst hsame
    cases hsel.symm.trans hsel'
    exact applyTriple_applyTriple hv m
  case sameField =>
    subst hsame
    cases hsel.symm.trans hsel'
    rw [applyTriple_applyTriple hv, applyTriple_applyTriple hv'] at hcomm
    exact hne (applyTriple_injective hv' hv hcomm).symm

end Sys2Proof.Machine

/-! ### The statements about the MessageFramer (42_message_framer.md): builds, parses, the round trip -/

namespace Sys2Proof.Machine

/-! What the builds answer (R181 to R184): a frame over what the RegisterCodec gives them, or its error. -/

section ExecBuild

variable {ins : Instrument} {fsel : Byte} {v : Int} (s : State) (q : Rat)

theorem exec_mfBuildDump_of_ok {m : Image} (h : rcEnc ins = .ok m) :
    exec (.mfBuildDump q ins) s = .next (s.respond (.ok (.bytes (frame 0x00 q m.toList)))) := by
  have hresult : operationResult s.cfg (.mfBuildDump q ins) = some (.ok (.bytes (frame 0x00 q m.toList))) := by
    simp only [operationResult, h]; rfl
  exact exec_of_operationResult hresult

theorem exec_mfBuildResp_of_ok {m : Image} (h : rcEnc ins = .ok m) :
    exec (.mfBuildResp q ins) s = .next (s.respond (.ok (.bytes (frame 0x03 q m.toList)))) := by
  have hresult : operationResult s.cfg (.mfBuildResp q ins) = some (.ok (.bytes (frame 0x03 q m.toList))) := by
    simp only [operationResult, h]; rfl
  exact exec_of_operationResult hresult

/-- R181, R184: a build of an instrument that RC.ENC refuses answers RC.ENC's error. -/
theorem exec_build_of_rcEnc_error {i : Instr} (hi : i ∈ [Instr.mfBuildDump q ins, .mfBuildResp q ins]) {e : ErrorInfo}
    (h : rcEnc ins = .error e) : exec i s = .next (s.respond (.err e)) := by
  have hresult : operationResult s.cfg i = some (.error e) := by
    rcases List.mem_pair.mp hi with rfl | rfl <;> simp only [operationResult, h] <;> rfl
  exact exec_of_operationResult hresult

theorem exec_mfBuildParam_of_ok {t : Triple} (h : rcTriple fsel v = .ok t) :
    exec (.mfBuildParam q fsel v) s = .next (s.respond (.ok (.bytes (frame 0x01 q (tripleBytes t))))) := by
  have hresult : operationResult s.cfg (.mfBuildParam q fsel v)
      = some (.ok (.bytes (frame 0x01 q (tripleBytes t)))) := by
    simp only [operationResult, h]; rfl
  exact exec_of_operationResult hresult

theorem exec_mfBuildParam_of_error {e : ErrorInfo} (h : rcTriple fsel v = .error e) :
    exec (.mfBuildParam q fsel v) s = .next (s.respond (.err e)) := by
  have hresult : operationResult s.cfg (.mfBuildParam q fsel v) = some (.error e) := by
    simp only [operationResult, h]; rfl
  exact exec_of_operationResult hresult

theorem exec_mfBuildReq : exec (.mfBuildReq q) s = .next (s.respond (.ok (.bytes (frame 0x02 q [])))) :=
  exec_of_operationResult (result := .ok (.bytes (frame 0x02 q []))) rfl

end ExecBuild

/-- R84 to R86, R147: RC.TRIPLE completes on a legal selector with a value in range. -/
theorem rcTriple_of_legalFieldValue {fsel : Byte} {v : Int} (h : legalFieldValue fsel v = true) :
    ∃ t, rcTriple fsel v = .ok t := by
  rcases rcTriple_cases fsel v with ⟨hsel, _⟩ | ⟨f, op, hsel, ⟨_, hok⟩ | ⟨hrange, _⟩⟩
  · simp [legalFieldValue, hsel] at h
  · exact ⟨_, hok⟩
  · simp [legalFieldValue, hsel, hrange] at h

/-- R147: on anything else it answers one of its two errors. -/
theorem rcTriple_of_not_legalFieldValue {fsel : Byte} {v : Int} (h : legalFieldValue fsel v = false) :
    ∃ e, rcTriple fsel v = .error e ∧ (e = .illegalRequest .badFieldSelector ∨ e = .invalidRange fsel v) := by
  rcases rcTriple_cases fsel v with ⟨_, herror⟩ | ⟨f, op, hsel, ⟨hrange, _⟩ | ⟨_, herror⟩⟩
  · exact ⟨_, herror, .inl rfl⟩
  · simp [legalFieldValue, hsel, hrange] at h
  · exact ⟨_, herror, .inr rfl⟩

/-! Frames as a build writes them (R180): their length, and what MF.PARSE makes of them (R194). -/

theorem length_frame (cmd : Byte) (q : Rat) (payload : Bytes) :
    (frame cmd q payload).length = 7 + (bpEnc payload).length :=
  length_frameBytes cmd (0, 0) (slotOf q) payload

theorem mfParse_frame_dump (q : Rat) (m : Image) :
    mfParse (frame 0x00 q m.toList) = .ok (.dump (slotOf q) (0, 0) m) :=
  mfParse_frameBytes (by decide) (length_bpEnc_image m) (by rw [parsedResult_dump, imageOfBytes_toList]; rfl)

theorem mfParse_frame_paramUpdate (q : Rat) (t : Triple) :
    mfParse (frame 0x01 q (tripleBytes t)) = .ok (.paramUpdate (slotOf q) (0, 0) t) :=
  mfParse_frameBytes (by decide) (length_bpEnc_triple t)
    (by rw [parsedResult_paramUpdate, tripleOfBytes_tripleBytes]; rfl)

theorem mfParse_frame_request (q : Rat) : mfParse (frame 0x02 q []) = .ok (.request (slotOf q) (0, 0)) :=
  mfParse_frameBytes (by decide) (by rw [bpEnc_nil]; rfl) (parsedResult_request (slotOf q) (0, 0))

theorem mfParse_frame_response (q : Rat) (m : Image) :
    mfParse (frame 0x03 q m.toList) = .ok (.response (slotOf q) (0, 0) m (rcDec m)) :=
  mfParse_frameBytes (by decide) (length_bpEnc_image m) (by rw [parsedResult_response, imageOfBytes_toList]; rfl)

/-- Settles O41: each build answers with a frame whose parse is known; in a Response, RC.DEC undoes RC.ENC. -/
theorem parseInvertsEveryBuild : Obligations.ParseInvertsEveryBuild := by
  intro s q
  refine ⟨fun ins hins => ?instrument, ?request, fun fsel v hlegal => ?parameter⟩
  case instrument =>
    have henc := rcEnc_of_valid hins
    have hresponse := mfParse_frame_response q (imageOf ins)
    rw [rcDec_imageOf hins] at hresponse
    exact ⟨imageOf ins, henc, ⟨_, exec_mfBuildResp_of_ok s q henc, hresponse⟩,
      ⟨_, exec_mfBuildDump_of_ok s q henc, mfParse_frame_dump q (imageOf ins)⟩⟩
  case request => exact ⟨_, exec_mfBuildReq s q, mfParse_frame_request q⟩
  case parameter =>
    obtain ⟨t, ht⟩ := rcTriple_of_legalFieldValue hlegal
    exact ⟨t, ht, _, exec_mfBuildParam_of_ok s q ht, mfParse_frame_paramUpdate q t⟩

/-- Settles O35: RC.ENC gives the builds an image of 12 bytes, which encode to 14, or its error. -/
theorem buildOfInstrumentFrames : Obligations.BuildOfInstrumentFrames := by
  intro s q ins
  constructor
  · intro hvalid
    have henc := rcEnc_of_valid hvalid
    have hlength : ∀ c, (frame c q (imageOf ins).toList).length = 21 := fun c => by
      rw [length_frame, length_bpEnc_image]
    exact ⟨imageOf ins, henc, fun c _ => hlength c, exec_mfBuildDump_of_ok s q henc, exec_mfBuildResp_of_ok s q henc⟩
  · intro hinvalid
    obtain ⟨_, _, _, _, _, _, herror⟩ := rcEnc_of_invalid hinvalid
    exact ⟨_, _, herror, fun i hi => exec_build_of_rcEnc_error s q hi herror⟩

/-- Settles O36: RC.TRIPLE gives the build three bytes, which encode to four, or its error. -/
theorem buildOfParameterFrames : Obligations.BuildOfParameterFrames := by
  intro s q fsel v
  constructor
  · intro hlegal
    obtain ⟨t, ht⟩ := rcTriple_of_legalFieldValue hlegal
    have hlength : (frame 0x01 q (tripleBytes t)).length = 11 := by rw [length_frame, length_bpEnc_triple]
    exact ⟨t, ht, hlength, exec_mfBuildParam_of_ok s q ht⟩
  · intro hillegal
    obtain ⟨e, herror, hkind⟩ := rcTriple_of_not_legalFieldValue hillegal
    exact ⟨e, herror, hkind, exec_mfBuildParam_of_error s q herror⟩

/-- Settles O37: the encoding of no bytes is empty. -/
theorem buildOfRequestFrames : Obligations.BuildOfRequestFrames := by
  intro s q
  have hframe : frame 0x02 q [] = [0xF0, 0x7D, 0x02, 0x00, 0x00, BitVec.ofNat 8 (slotOf q).val, 0xF7] := by
    rw [frame, frameBytes, bpEnc_nil]; rfl
  rw [← hframe]
  exact exec_mfBuildReq s q

/-! The bytes of a built frame (R185). -/

/-- The bytes of a built frame between SOX and EOX. -/
def frameInner (cmd : Byte) (q : Rat) (payload : Bytes) : Bytes :=
  [vendor, cmd, 0, 0, BitVec.ofNat 8 (slotOf q).val] ++ bpEnc payload

theorem frame_eq_frameInner (cmd : Byte) (q : Rat) (payload : Bytes) :
    frame cmd q payload = sox :: (frameInner cmd q payload ++ [eox]) := rfl

theorem getLsbD_seven_of_toNat_lt {b : Byte} (h : b.toNat < 128) : b.getLsbD 7 = false := by
  rw [getLsbD_seven_eq_decide, decide_eq_false (by omega)]

theorem getLsbD_seven_of_mem_frameInner {cmd : Byte} (hcmd : cmd.toNat ≤ 3) {q : Rat} {payload : Bytes} {b : Byte}
    (hb : b ∈ frameInner cmd q payload) : b.getLsbD 7 = false := by
  rcases List.mem_append.mp hb with hheader | hpayload
  · simp only [List.mem_cons, List.not_mem_nil, or_false] at hheader
    rcases hheader with rfl | rfl | rfl | rfl | rfl
    · rfl
    · exact getLsbD_seven_of_toNat_lt (by omega)
    · rfl
    · rfl
    · exact getLsbD_seven_of_toNat_lt (by rw [toNat_slotByte]; omega)
  · exact getLsbD_seven_of_mem_bpEnc hpayload

/-- Settles O38: the bytes between the ends are the header's, each below 128, and those of an encoding. -/
theorem onlyFrameEndsHaveTheHighBit : Obligations.OnlyFrameEndsHaveTheHighBit := by
  intro cmd q payload hcmd f
  have hslot : (BitVec.ofNat 8 (slotOf q).val).toNat ≤ 15 := by rw [toNat_slotByte]; omega
  have hlast : f.getLast? = some 0xF7 := List.getLast?_concat
  refine ⟨rfl, rfl, rfl, rfl, rfl, ⟨_, rfl, hslot⟩, hlast, fun k b hpos hbefore hb => ?_⟩
  have hf : f = sox :: (frameInner cmd q payload ++ [eox]) := frame_eq_frameInner cmd q payload
  obtain ⟨j, rfl⟩ := Nat.exists_eq_add_of_le' hpos
  rw [hf, List.length_cons, List.length_append, List.length_singleton] at hbefore
  rw [hf, List.getElem?_cons_succ, List.getElem?_append_left (by omega)] at hb
  exact getLsbD_seven_of_mem_frameInner hcmd (List.mem_of_getElem? hb)

/-! The checks of MF.PARSE in the rule's order (R190): first those of the header, then those of the encoded payload. -/

/-- R190, R191: what MF.PARSE makes of an encoded payload, once the checks of the header have passed. -/
def parsePayload (cmd : Byte) (slot : Fin 16) (reserved : Byte × Byte) (enc : Bytes) : Except ErrorInfo ParsedFrame :=
  match enc.findIdx? (fun b => b.getLsbD 7) with
  | some j => .error (.malformedFrame .payloadHighBit (6 + j))
  | none =>
    if enc.length ≠ encodedLength cmd then .error (.malformedFrame .payloadLength enc.length)
    else
      match parsedResult cmd slot reserved (bpDec enc) with
      | some p => .ok p
      | none => .error (.malformedFrame .payloadLength enc.length)

/-- R190: MF.PARSE by its checks of the header, each a condition on one byte. -/
theorem mfParse_eq (fr : Bytes) :
    mfParse fr =
      if fr.length < 7 then .error (.malformedFrame .tooShort fr.length)
      else if fr.getD 0 0 ≠ 0xF0 then .error (.malformedFrame .badSOX 0)
      else if fr.getD 1 0 ≠ 0x7D then .error (.malformedFrame .badVendor 1)
      else if fr.getD (fr.length - 1) 0 ≠ 0xF7 then .error (.malformedFrame .badEOX (fr.length - 1))
      else if 0x03 < (fr.getD 2 0).toNat then .error (.malformedFrame .unknownCommand 2)
      else if h : 0x0F < (fr.getD 5 0).toNat then .error (.malformedFrame .badSlot 5)
      else parsePayload (fr.getD 2 0) ⟨(fr.getD 5 0).toNat, by omega⟩ (fr.getD 3 0, fr.getD 4 0)
        ((fr.drop 6).take (fr.length - 7)) := by
  by_cases hlen : fr.length < 7
  · rw [mfParse, dif_pos hlen, if_pos hlen]
  · have hget : ∀ k (hk : k < fr.length), fr.getD k 0 = fr[k] := fun k hk => List.getD_eq_getElem fr 0 hk
    rw [mfParse, dif_neg hlen, if_neg hlen]
    simp only [hget 0 (by omega), hget 1 (by omega), hget 2 (by omega), hget 3 (by omega), hget 4 (by omega),
      hget 5 (by omega), hget (fr.length - 1) (by omega)]
    rfl

section ParsePayload

variable {cmd : Byte} {slot : Fin 16} {reserved : Byte × Byte} {enc : Bytes}

/-- R190: the first byte with bit 7 set is reported. -/
theorem parsePayload_of_highBit (h : ∃ b ∈ enc, b.getLsbD 7 = true) :
    ∃ j b, enc[j]? = some b ∧ b.getLsbD 7 = true ∧ (∀ k c, k < j → enc[k]? = some c → c.getLsbD 7 = false)
      ∧ parsePayload cmd slot reserved enc = .error (.malformedFrame .payloadHighBit (6 + j)) := by
  have hsome : (enc.findIdx? fun b => b.getLsbD 7).isSome := by
    rw [List.findIdx?_isSome, List.any_eq_true]; exact h
  obtain ⟨j, hj⟩ := Option.isSome_iff_exists.mp hsome
  obtain ⟨hlt, hbit, hfirst⟩ := List.findIdx?_eq_some_iff_getElem.mp hj
  refine ⟨j, enc[j], List.getElem?_eq_getElem hlt, hbit, fun k c hk hc => ?_, by simp only [parsePayload, hj]⟩
  obtain ⟨_, rfl⟩ := List.getElem?_eq_some_iff.mp hc
  simpa using hfirst k hk

theorem parsePayload_of_low (h : ¬ ∃ b ∈ enc, b.getLsbD 7 = true) :
    parsePayload cmd slot reserved enc =
      if enc.length ≠ encodedLength cmd then .error (.malformedFrame .payloadLength enc.length)
      else (parsedResult cmd slot reserved (bpDec enc)).elim (.error (.malformedFrame .payloadLength enc.length)) .ok := by
  have hnone : (enc.findIdx? fun b => b.getLsbD 7) = none := by
    rw [List.findIdx?_eq_none_iff]
    exact fun b hb => Bool.eq_false_iff.mpr fun hbit => h ⟨b, hb, hbit⟩
  simp only [parsePayload, hnone]
  cases parsedResult cmd slot reserved (bpDec enc) <;> rfl

end ParsePayload

/-- MF.PARSE of `fr` is answered with `result`, and nothing else changes. -/
def AnswersParse (s : State) (fr : Bytes) (result : Except ErrorInfo ParsedFrame) : Prop :=
  exec (.mfParse fr) s = .next (s.answer (result.map .parsed))

theorem answersParse_mfParse {s : State} {fr : Bytes} (h : s.cfg.accepts fr) : AnswersParse s fr (mfParse fr) := by
  have hresult : operationResult s.cfg (.mfParse fr) = some ((mfParse fr).map .parsed) := by
    simp only [operationResult, checkLength_of_accepts h]
    cases mfParse fr <;> rfl
  exact exec_of_operationResult hresult

/-- One check of a chain: what holds of its result holds by cases, of its report or of what the later checks leave. -/
theorem ite_of_check {α : Type} {P : α → Prop} {c A B : Prop} [Decidable c] {report rest : α}
    (h : P (if c then report else rest)) (hfail : P report → A) (hpass : ¬ c → P rest → B) : if c then A else B := by
  split
  · next hc => exact hfail (by rwa [if_pos hc] at h)
  · next hc => exact hpass hc (by rwa [if_neg hc] at h)

/-- Settles O40: MF.PARSE's result is a value or an error, and `ensures_mfParse` says of what kind its errors are. -/
theorem parseIsTotal : Obligations.ParseIsTotal := by
  intro s fr hacc
  have hanswer : exec (.mfParse fr) s = .next (s.answer ((mfParse fr).map .parsed)) := answersParse_mfParse hacc
  have hkind := ensures_mfParse fr
  rw [hanswer]
  cases hparse : mfParse fr with
  | ok p => exact .inl ⟨p, rfl⟩
  | error e =>
    rw [hparse] at hkind
    obtain ⟨hmalformed, _⟩ := hkind
    cases e with
    | malformedFrame r i => exact .inr ⟨r, i, rfl⟩
    | _ => cases hmalformed

/-- Settles O39: the header checks one by one, as `mfParse_eq` has them, then the payload's. A payload of its command's
length decodes to 12, three or no bytes, which is its command's shape. -/
theorem parseReportsFirstFailingCheck : Obligations.ParseReportsFirstFailingCheck := by
  intro s fr hacc n byte enc answers
  have hchain := answersParse_mfParse hacc
  rw [mfParse_eq] at hchain
  refine ite_of_check hchain id fun _ hfromSox => ?_
  refine ite_of_check hfromSox id fun _ hfromVendor => ?_
  refine ite_of_check hfromVendor id fun _ hfromEox => ?_
  refine ite_of_check hfromEox id fun _ hfromCommand => ?_
  refine ite_of_check hfromCommand id fun _ hfromSlot => ?_
  split
  · next hslot => rwa [dif_pos hslot] at hfromSlot
  next hslot =>
  rw [dif_neg hslot] at hfromSlot
  split
  · next hhigh =>
    obtain ⟨j, b, hj, hbit, hfirst, hreport⟩ := parsePayload_of_highBit hhigh
    rw [hreport] at hfromSlot
    exact ⟨j, b, hj, hbit, hfirst, hfromSlot⟩
  next hlow =>
  rw [parsePayload_of_low hlow] at hfromSlot
  refine ite_of_check hfromSlot id fun hlength hanswer => ?_
  change AnswersParse s fr ((parsedResult (byte 2) _ _ (bpDec enc)).elim _ _) at hanswer
  have hdec := length_bpDec enc
  rw [not_not.mp hlength] at hdec
  refine ⟨⟨(byte 5).toNat, by omega⟩, rfl, fun h => ?dump, fun h => ?paramUpdate, fun h => ?request,
    fun h => ?response⟩
  all_goals rw [h] at hanswer hdec
  case dump =>
    obtain ⟨m, hm, hbytes⟩ := imageOfBytes_of_length hdec
    rw [parsedResult_dump, hm] at hanswer
    exact ⟨m, hbytes.symm, hanswer⟩
  case paramUpdate =>
    obtain ⟨offset, mask, value, hbytes⟩ := List.length_eq_three.mp hdec
    rw [hbytes] at hanswer
    exact ⟨⟨offset, mask, value⟩, hbytes.symm, hanswer⟩
  case request =>
    rw [List.length_eq_zero_iff.mp hdec] at hanswer
    exact hanswer
  case response =>
    obtain ⟨m, hm, hbytes⟩ := imageOfBytes_of_length hdec
    rw [parsedResult_response, hm] at hanswer
    exact ⟨m, hbytes.symm, hanswer⟩

end Sys2Proof.Machine

/-! ### The statements about the BankFileParser (43_bank_file_parser.md): labels, bounds, the slots kept, the bytes not used -/

namespace Sys2Proof.Machine

/-! The digits of a label's index (R236). -/

theorem dec_zero : dec 0 = [0x30] := rfl

/-- R236: only 0 has a digit 0 first. -/
theorem eq_zero_of_head?_decDigits {fuel n : Nat} (hn : n < 10 ^ fuel) (h : (decDigits fuel n).head? = some 0x30) :
    n = 0 := by
  induction fuel generalizing n with
  | zero => cases h
  | succ fuel ih =>
    rw [decDigits] at h
    split at h
    · next hlt =>
      have hdigit : BitVec.ofNat 8 (0x30 + n) = 0x30 := Option.some.inj h
      have hvalue := toNat_asciiDigit hlt
      rw [hdigit] at hvalue
      change 0x30 = 0x30 + n at hvalue
      omega
    · next hge =>
      have hq : n / 10 < 10 ^ fuel := Nat.div_lt_of_lt_mul (by rwa [pow_succ'] at hn)
      have hquot : n / 10 = 0 := by
        cases hdigits : decDigits fuel (n / 10) with
        | nil => rw [← decimalValue_decDigits hq, hdigits]; rfl
        | cons d ds =>
          refine ih hq ?_
          rw [hdigits] at h ⊢
          exact h
      omega

theorem eq_zero_of_head?_dec {i : Nat} (h : (dec i).head? = some 0x30) : i = 0 :=
  eq_zero_of_head?_decDigits (i.lt_succ_self.trans (Nat.lt_pow_self (by decide))) h

theorem dec_ne_nil (i : Nat) : dec i ≠ [] := by
  intro hnil
  have hi := decimalValue_dec i
  rw [hnil] at hi
  obtain rfl : 0 = i := hi
  cases hnil

theorem isDecimalOf_dec (i : Nat) : isDecimalOf i (dec i) := by
  refine ⟨dec_ne_nil i, fun d hd => decDigits_range hd, decimalValue_dec i, fun hhead => ?_⟩
  rw [eq_zero_of_head?_dec hhead, dec_zero]

/-- Settles O57: the digits are in range and read as the index, and a first digit 0 is the whole of `dec 0`. -/
theorem labelIndexIsDecimal : Obligations.LabelIndexIsDecimal :=
  fun i => ⟨isDecimalOf_dec i, eq_zero_of_head?_dec⟩

/-! What BF.PARSE reads, as functions of the file's bytes with no failure in them (R232, R236 to R243). The lemmas after
them tie each to the model's checked reads of a file that holds the bytes. -/

/-- R232: the header of a file that holds its 19 bytes. -/
def headerOf (file : Bytes) : BankHeader where
  version := (file.getD 11 0).toNat + 256 * (file.getD 12 0).toNat
  melodic := 256 * (file.getD 13 0).toNat + (file.getD 14 0).toNat
  percussion := 256 * (file.getD 15 0).toNat + (file.getD 16 0).toNat

/-- R236, R240: the text of the 32-byte name field at an offset. -/
def textAt (file : Bytes) (off : Nat) : Bytes := ntrim ((file.drop off).take 32)

/-- R236, R237: the name of melodic bank `i`. -/
def bankName (file : Bytes) (hd : BankHeader) (i : Nat) : Bytes :=
  if 2 ≤ hd.version then textAt file (19 + 34 * i) else []

/-- R241: the register image of the record at `r`. -/
def recordImage (cfg : Config) (file : Bytes) (r : Nat) : Image :=
  let at_ := fun o k => file.getD (r + o + k) 0
  let md := at_ cfg.modOff.val
  let ca := at_ cfg.carOff.val
  #v[0x00, md 0, md 1, md 2, md 3, md 4, at_ cfg.fbconnOff.val 0, ca 0, ca 1, ca 2, ca 3, ca 4]

/-- R239 to R242: slot `pos`, whose record is at `r`, or none when its flags skip it. -/
def keptSlot (cfg : Config) (file : Bytes) (r pos : Nat) : Option (Bytes × Instrument) :=
  if file.getD (r + cfg.flagsOff.val) 0 &&& 0x07 ≠ 0 then none
  else some (if textAt file r = [] then cfg.gmName.toList.getD pos [] else textAt file r,
    rcDec (recordImage cfg file r))

/-- R243: melodic bank `i`. -/
def bankEntry (cfg : Config) (file : Bytes) (hd : BankHeader) (i : Nat) : BankEntry :=
  ⟨labelOf i (bankName file hd i), (List.range 128).filterMap fun pos => keptSlot cfg file (recordOffset hd i pos) pos⟩

/-- R243: the bank of a complete file. -/
def bankOf (cfg : Config) (file : Bytes) : Bank :=
  (List.range (headerOf file).melodic).map (bankEntry cfg file (headerOf file))

/-! Where the parts of a file lie (R234, R235, R238). -/

theorem neededLength_ge (hd : BankHeader) : 19 ≤ neededLength hd :=
  (tableOffset_ge hd).trans (Nat.le_add_right ..)

theorem nameField_le_neededLength {hd : BankHeader} {i : Nat} (hv : 2 ≤ hd.version) (hi : i < hd.melodic) :
    19 + 34 * i + 32 ≤ neededLength hd := by
  unfold neededLength tableOffset
  rw [if_pos hv]
  omega

/-- R238: a record of either size lies inside the bytes required. -/
theorem record_le_neededLength {hd : BankHeader} {i pos : Nat} (hi : i < hd.melodic) (hpos : pos < 128) :
    recordOffset hd i pos + 62 ≤ neededLength hd := by
  unfold recordOffset neededLength recordSize
  split <;> omega

/-! The checked reads of a file that holds the bytes (R63, R64). -/

section Reads

variable {file : Bytes}

theorem readByte_eq_getD {off : Nat} (h : off < file.length) : readByte file off = .ok (file.getD off 0) := by
  rw [readByte_eq h, List.getD_eq_getElem _ _ h]

theorem readU16le_eq {off : Nat} (h : off + 1 < file.length) :
    readU16le file off = .ok ((file.getD off 0).toNat + 256 * (file.getD (off + 1) 0).toNat) := by
  unfold readU16le
  rw [readByte_eq_getD (by omega), readByte_eq_getD h]
  change Except.ok _ = Except.ok _
  rw [Nat.lor_comm, ← Nat.shiftLeft_add_eq_or_of_lt (BitVec.isLt _), Nat.shiftLeft_eq]
  congr 1
  omega

theorem readU16be_eq {off : Nat} (h : off + 1 < file.length) :
    readU16be file off = .ok (256 * (file.getD off 0).toNat + (file.getD (off + 1) 0).toNat) := by
  unfold readU16be
  rw [readByte_eq_getD (by omega), readByte_eq_getD h]
  change Except.ok _ = Except.ok _
  rw [← Nat.shiftLeft_add_eq_or_of_lt (BitVec.isLt _), Nat.shiftLeft_eq]
  congr 1
  omega

theorem slice_add_eq_take_drop (off n : Nat) : slice file off (off + n) = (file.drop off).take n := by
  rw [slice, Nat.add_sub_cancel_left]

theorem slice_eq_map_getD {off n : Nat} (h : off + n ≤ file.length) :
    slice file off (off + n) = (List.range n).map fun k => file.getD (off + k) 0 := by
  refine List.ext_getElem (by simp; omega) fun k hk _ => ?_
  have hlt : off + k < file.length := by rw [length_slice] at hk; omega
  simp [slice, hlt]

theorem magicCheck_iff : (file.length < 11 ∨ slice file 0 11 ≠ magic) ↔ file.take 11 ≠ magic := by
  refine ⟨fun h htake => ?_, .inr⟩
  have hlength := congrArg List.length htake
  rw [List.length_take] at hlength
  change min 11 file.length = 11 at hlength
  exact h.elim (by omega) fun hne => hne htake

/-- R231, R232. -/
theorem readHeader_eq (file : Bytes) : readHeader file =
    if file.take 11 ≠ magic then .error (.unsupportedFileFormat .badMagic 0)
    else if file.length < 19 then .error (.unsupportedFileFormat .truncated 19)
    else .ok (headerOf file) := by
  unfold readHeader
  refine ite_congr (propext magicCheck_iff) (fun _ => rfl) fun _ => ite_congr rfl (fun _ => rfl) fun hlen => ?_
  rw [readU16le_eq (by omega), readU16be_eq (by omega), readU16be_eq (by omega)]
  rfl

/-- R236, R237: a bank's label needs the name field only from version 2 on. -/
theorem bankLabel_eq {hd : BankHeader} {i : Nat} (hi : i < hd.melodic) (hneed : neededLength hd ≤ file.length) :
    bankLabel file hd i = .ok (labelOf i (bankName file hd i)) := by
  unfold bankLabel bankName
  split
  · next hv =>
    rw [readBytes_eq ((nameField_le_neededLength hv hi).trans hneed), slice_add_eq_take_drop]
    rfl
  · rfl

/-- R241: the bytes read from a record make its image. -/
theorem imageOfBytes_record (cfg : Config) {r : Nat} (h : r + 62 ≤ file.length) :
    imageOfBytes ([0x00] ++ slice file (r + cfg.modOff.val) (r + cfg.modOff.val + 5)
      ++ [file.getD (r + cfg.fbconnOff.val) 0] ++ slice file (r + cfg.carOff.val) (r + cfg.carOff.val + 5))
      = some (recordImage cfg file r) := by
  rw [slice_eq_map_getD (by omega), slice_eq_map_getD (by omega)]
  rfl

/-- R239 to R242. -/
theorem readRecord_eq (cfg : Config) {r : Nat} (pos : Nat) (h : r + 62 ≤ file.length) :
    readRecord cfg file r pos = .ok (keptSlot cfg file r pos) := by
  unfold readRecord keptSlot
  rw [readByte_eq_getD (by omega)]
  change (if _ then _ else _) = _
  split
  · rfl
  · rw [readBytes_eq (by omega), readBytes_eq (by omega), readByte_eq_getD (by omega), readBytes_eq (by omega)]
    change Except.ok (Option.map _ (imageOfBytes _)) = _
    rw [imageOfBytes_record cfg h, slice_add_eq_take_drop]
    rfl

/-- R243. -/
theorem readBank_eq (cfg : Config) {hd : BankHeader} {i : Nat} (hi : i < hd.melodic)
    (hneed : neededLength hd ≤ file.length) : readBank cfg file hd i = .ok (bankEntry cfg file hd i) := by
  have hslots := mapM_except_ok _ _ (List.range 128) fun pos hpos =>
    readRecord_eq cfg pos ((record_le_neededLength hi (List.mem_range.mp hpos)).trans hneed)
  unfold readBank
  rw [bankLabel_eq hi hneed, hslots]
  change Except.ok (BankEntry.mk _ _) = _
  rw [List.filterMap_map]
  rfl

end Reads

/-- R230, R231, R235: BF.PARSE is three checks, and then a function of the file's bytes. -/
theorem bfParse_eq (cfg : Config) (file : Bytes) : bfParse cfg file =
    if file.take 11 ≠ magic then .error (.unsupportedFileFormat .badMagic 0)
    else if file.length < 19 then .error (.unsupportedFileFormat .truncated 19)
    else if file.length < neededLength (headerOf file) then
      .error (.unsupportedFileFormat .truncated (neededLength (headerOf file)))
    else .ok (bankOf cfg file) := by
  unfold bfParse
  rw [readHeader_eq]
  split
  · rfl
  split
  · rfl
  refine ite_congr rfl (fun _ => rfl) fun hneed => ?_
  exact mapM_except_ok _ _ _ fun i hi => readBank_eq cfg (List.mem_range.mp hi) (Nat.not_lt.mp hneed)

/-- BF.PARSE completes exactly on the files that pass its checks. -/
theorem bfParse_eq_ok_iff {cfg : Config} {file : Bytes} {bank : Bank} : bfParse cfg file = .ok bank ↔
    file.take 11 = magic ∧ neededLength (headerOf file) ≤ file.length ∧ bankOf cfg file = bank := by
  have hlarge := neededLength_ge (headerOf file)
  rw [bfParse_eq]
  split
  · next hmagic => exact ⟨nofun, fun ⟨h, _⟩ => absurd h hmagic⟩
  next hmagic =>
  split
  · next hlen => exact ⟨nofun, fun ⟨_, h, _⟩ => by omega⟩
  split
  · next hlen => exact ⟨nofun, fun ⟨_, h, _⟩ => by omega⟩
  next hlen =>
  rw [Except.ok.injEq]
  exact ⟨fun h => ⟨not_not.mp hmagic, Nat.not_lt.mp hlen, h⟩, fun ⟨_, _, h⟩ => h⟩

/-- BF.PARSE of `file` is answered with `result`, and nothing else changes. -/
def AnswersBankParse (s : State) (file : Bytes) (result : Except ErrorInfo Bank) : Prop :=
  exec (.bfParse file) s = .next (s.answer (result.map .bank))

theorem answersBankParse_bfParse {s : State} {file : Bytes} (h : s.cfg.accepts file) :
    AnswersBankParse s file (bfParse s.cfg file) := by
  have hresult : operationResult s.cfg (.bfParse file) = some ((bfParse s.cfg file).map .bank) := by
    simp only [operationResult, checkLength_of_accepts h]
    cases bfParse s.cfg file <;> rfl
  exact exec_of_operationResult hresult

/-- Settles O44: the checks one by one, as `bfParse_eq` has them; what passes them is answered with `bankOf`. -/
theorem bankBoundsComeFirst : Obligations.BankBoundsComeFirst := by
  intro s file hacc u version melodic percussion size table need answers
  have hchain := answersBankParse_bfParse hacc
  rw [bfParse_eq] at hchain
  refine ite_of_check hchain id fun _ hfromLength => ?_
  refine ite_of_check hfromLength id fun _ hfromBounds => ?_
  refine ite_of_check hfromBounds id fun _ hbank => ?_
  exact ⟨bankOf s.cfg file, (List.length_map ..).trans List.length_range, hbank⟩

/-- Settles O45: a file that passes the checks is answered with `bankOf`, which is the statement's bank with `dec` for the
digits. -/
theorem bankHoldsTheKeptSlots : Obligations.BankHoldsTheKeptSlots := by
  intro s file hacc u version melodic percussion size table text bankName label slot hmagic _ hneed
  refine ⟨dec, isDecimalOf_dec, ?_⟩
  have hparse : bfParse s.cfg file = .ok (bankOf s.cfg file) := bfParse_eq_ok_iff.mpr ⟨hmagic, hneed, rfl⟩
  have hanswer := answersBankParse_bfParse hacc
  rw [hparse] at hanswer
  exact hanswer

/-! The bytes BF.PARSE does not read (R244, R245): two files that agree on the bytes below the length required, but for the
header's flags and model bytes, hold the same bank. -/

/-- The files hold the same bytes below `n`, except perhaps at 17 and 18, the header's flags and model. -/
def AgreeOnUsed (n : Nat) (file file' : Bytes) : Prop := ∀ k, k < n → k ≠ 17 → k ≠ 18 → file[k]? = file'[k]?

theorem agreeOnUsed_set {off : Nat} (hoff : off = 17 ∨ off = 18) (n : Nat) (file : Bytes) (b : Byte) :
    AgreeOnUsed n (file.set off b) file :=
  fun _ _ h17 h18 => List.getElem?_set_ne (by omega)

theorem agreeOnUsed_append {n : Nat} {file : Bytes} (h : n ≤ file.length) (more : Bytes) :
    AgreeOnUsed n (file ++ more) file :=
  fun _ hk _ _ => List.getElem?_append_left (by omega)

section AgreeOnUsed

variable {n : Nat} {file file' : Bytes} (h : AgreeOnUsed n file file')
include h

theorem AgreeOnUsed.getD_eq {k : Nat} (hk : k < n) (h17 : k ≠ 17) (h18 : k ≠ 18) : file.getD k 0 = file'.getD k 0 := by
  rw [List.getD_eq_getElem?_getD, h k hk h17 h18, ← List.getD_eq_getElem?_getD]

theorem AgreeOnUsed.take_eq (hn : 11 ≤ n) : file.take 11 = file'.take 11 := by
  refine List.ext_getElem? fun k => ?_
  rw [List.getElem?_take, List.getElem?_take]
  exact ite_congr rfl (fun hk => h k (by omega) (by omega) (by omega)) fun _ => rfl

theorem AgreeOnUsed.headerOf_eq (hn : 19 ≤ n) : headerOf file = headerOf file' := by
  have hbyte (k : Nat) (hk : k < 17) := h.getD_eq (k := k) (by omega) (by omega) (by omega)
  simp only [headerOf, hbyte 11 (by decide), hbyte 12 (by decide), hbyte 13 (by decide), hbyte 14 (by decide),
    hbyte 15 (by decide), hbyte 16 (by decide)]

theorem AgreeOnUsed.textAt_eq {off : Nat} (hoff : 19 ≤ off) (hn : off + 32 ≤ n) : textAt file off = textAt file' off := by
  refine congrArg ntrim (List.ext_getElem? fun k => ?_)
  rw [List.getElem?_take, List.getElem?_take, List.getElem?_drop, List.getElem?_drop]
  exact ite_congr rfl (fun hk => h (off + k) (by omega) (by omega) (by omega)) fun _ => rfl

theorem AgreeOnUsed.keptSlot_eq (cfg : Config) {r : Nat} (pos : Nat) (hr : 19 ≤ r) (hn : r + 62 ≤ n) :
    keptSlot cfg file r pos = keptSlot cfg file' r pos := by
  have hbyte (o k : Nat) (hk : o + k < 62) : file.getD (r + o + k) 0 = file'.getD (r + o + k) 0 :=
    h.getD_eq (by omega) (by omega) (by omega)
  have himage : recordImage cfg file r = recordImage cfg file' r := by
    have hmod (k : Nat) (hk : k < 5) := hbyte cfg.modOff.val k (by omega)
    have hcar (k : Nat) (hk : k < 5) := hbyte cfg.carOff.val k (by omega)
    simp only [recordImage, hmod 0 (by decide), hmod 1 (by decide), hmod 2 (by decide), hmod 3 (by decide),
      hmod 4 (by decide), hcar 0 (by decide), hcar 1 (by decide), hcar 2 (by decide), hcar 3 (by decide),
      hcar 4 (by decide), hbyte cfg.fbconnOff.val 0 cfg.fbconnOff.isLt]
  simp only [keptSlot, himage, h.textAt_eq hr (by omega), h.getD_eq (k := r + cfg.flagsOff.val) (by omega) (by omega)
    (by omega)]

theorem AgreeOnUsed.bankEntry_eq (cfg : Config) {hd : BankHeader} {i : Nat} (hi : i < hd.melodic)
    (hn : neededLength hd ≤ n) : bankEntry cfg file hd i = bankEntry cfg file' hd i := by
  have hname : bankName file hd i = bankName file' hd i :=
    ite_congr rfl (fun hv => h.textAt_eq (by omega) ((nameField_le_neededLength hv hi).trans hn)) fun _ => rfl
  have hslot (pos : Nat) (hpos : pos ∈ List.range 128) :
      keptSlot cfg file (recordOffset hd i pos) pos = keptSlot cfg file' (recordOffset hd i pos) pos := by
    have htable := tableOffset_ge hd
    exact h.keptSlot_eq cfg pos (by unfold recordOffset; omega)
      ((record_le_neededLength hi (List.mem_range.mp hpos)).trans hn)
  rw [bankEntry, bankEntry, hname, List.filterMap_congr hslot]

theorem AgreeOnUsed.bankOf_eq (cfg : Config) (hn : neededLength (headerOf file') ≤ n) :
    bankOf cfg file = bankOf cfg file' := by
  rw [bankOf, bankOf, h.headerOf_eq ((neededLength_ge _).trans hn)]
  exact List.map_congr_left fun i hi => h.bankEntry_eq cfg (List.mem_range.mp hi) hn

end AgreeOnUsed

/-- R245: neither of the two bytes affects a result, an error's neither. -/
theorem bfParse_set {off : Nat} (hoff : off = 17 ∨ off = 18) (cfg : Config) (file : Bytes) (b : Byte) :
    bfParse cfg (file.set off b) = bfParse cfg file := by
  have hagree := agreeOnUsed_set hoff (neededLength (headerOf file)) file b
  have hlarge := neededLength_ge (headerOf file)
  rw [bfParse_eq, bfParse_eq, hagree.take_eq (by omega), hagree.headerOf_eq hlarge, hagree.bankOf_eq cfg (Nat.le_refl _),
    List.length_set]

/-- R235, R244: bytes after those required change no bank. -/
theorem bfParse_append {cfg : Config} {file : Bytes} {bank : Bank} (h : bfParse cfg file = .ok bank) (more : Bytes) :
    bfParse cfg (file ++ more) = .ok bank := by
  obtain ⟨hmagic, hneed, hbank⟩ := bfParse_eq_ok_iff.mp h
  have hagree := agreeOnUsed_append hneed more
  have hlarge := neededLength_ge (headerOf file)
  refine bfParse_eq_ok_iff.mpr ⟨?_, ?_, ?_⟩
  · rw [hagree.take_eq (by omega), hmagic]
  · rw [hagree.headerOf_eq hlarge, List.length_append]
    omega
  · rw [hagree.bankOf_eq cfg (Nat.le_refl _), hbank]

/-- Settles O47: the files agree on every byte the bank is made of. -/
theorem bankIgnoresUnusedBytes : Obligations.BankIgnoresUnusedBytes :=
  fun cfg file => ⟨fun b => ⟨bfParse_set (.inl rfl) cfg file b, bfParse_set (.inr rfl) cfg file b⟩,
    fun _ more h => bfParse_append h more⟩

end Sys2Proof.Machine

/-! ### The statements about exceptions (60_exceptions.md): errors and their codes, the idle machine, the receiving device -/

namespace Sys2Proof.Machine

/-! Errors (R271 to R275, R281). -/

/-- Settles O5: the response chosen for the request under the state's configuration. -/
theorem everyRequestGetsOneResponse : Obligations.EveryRequestGetsOneResponse := by
  intro s r rest hev
  obtain ⟨resp, hstep⟩ := exists_step_eq_respond s.cfg r
  exact ⟨resp, hstep s rest rfl hev⟩

/-- Settles O3: with nothing presented, fetching finds nothing to run. -/
theorem idleMachineHoldsNothingNew : Obligations.IdleMachineHoldsNothingNew :=
  fun s hev => step_of_done (s.fetch_nil hev)

/-- STATUS of an error is the code of its kind, whatever its info record holds. -/
@[simp] theorem Response.status_err (e : ErrorInfo) : (Response.err e).status = e.kind.status := rfl

/-- Settles O11: Ok, and then the table of the kinds row by row. -/
theorem statusIsTheKindsCode : Obligations.StatusIsTheKindsCode :=
  ⟨fun _ => rfl, fun fsel v => Response.status_err (.invalidRange fsel v),
    fun r i => Response.status_err (.malformedFrame r i), fun r o => Response.status_err (.unsupportedFileFormat r o),
    fun r => Response.status_err (.illegalRequest r)⟩

/-- Settles O12: the tables of the reasons, one for each kind that has reasons. -/
theorem reasonCodesFollowTheTables : Obligations.ReasonCodesFollowTheTables :=
  ⟨fun _malformedIndex => rfl, fun _fileOffset => rfl, rfl, fun _fsel _value => rfl⟩

/-! What the receipt of a frame does to the device (R288): one equation a frame, the parameter update by whether its offset
names a byte. -/

section Receipt

variable (s : State) (k : Fin 16) (rv : Byte × Byte)

theorem exec_frameDump (m : Image) : exec (.frameDump k rv m) s = .next (s.setDevSlot k m) := rfl

theorem exec_frameParam_of_le {t : Triple} (h : t.offset.toNat ≤ 11) :
    exec (.frameParam k rv t) s = .next (s.setDevSlot k (applyTriple (s.devSlot k) t)) :=
  congrArg Host.Outcome.next (if_pos h)

theorem exec_frameParam_of_stray {t : Triple} (h : 11 < t.offset.toNat) :
    exec (.frameParam k rv t) s = .next (s.strayUpdate k) :=
  congrArg Host.Outcome.next (if_neg (Nat.not_le.mpr h))

theorem exec_frameReq :
    exec (.frameReq k rv) s = .next (s.sendReplies [frameBytes 0x03 (0, 0) k (s.replyImage k).toList]).drawFree := rfl

theorem exec_frameResp (m : Image) : exec (.frameResp k rv m) s = .next s := rfl

/-- R72: after an update the slot holds the written byte at the triple's offset and its old bytes elsewhere. -/
theorem getElem_devSlot_setDevSlot_applyTriple (t : Triple) {i : Nat} (hi : i < 12) :
    ((s.setDevSlot k (applyTriple (s.devSlot k) t)).devSlot k)[i]
      = if i = t.offset.toNat then ((s.devSlot k)[i] &&& t.mask) ||| t.value else (s.devSlot k)[i] := by
  simp only [State.devSlot_setDevSlot_same, getElem_applyTriple, eq_comm]

@[simp] theorem replies_strayUpdate : (s.strayUpdate k).replies = s.replies ++ Config.strayReplies s.free := rfl

end Receipt

/-- Settles O49: the receipt writes the slot, and reading the register file back shows what that changes. -/
theorem dumpFrameStoresItsImage : Obligations.DumpFrameStoresItsImage :=
  fun s k rv m => ⟨s.setDevSlot k m, exec_frameDump s k rv m, s.devSlot_setDevSlot_same k m,
    fun _ hj => s.devSlot_setDevSlot_other hj.symm m, rfl⟩

/-- Settles O50: the offset names a byte, so the slot is updated, and its bytes are read one by one. -/
theorem parameterFrameUpdatesOneByte : Obligations.ParameterFrameUpdatesOneByte := by
  intro s k rv tr o ho
  have hbyte := fun i : Fin 12 => getElem_devSlot_setDevSlot_applyTriple s k tr i.isLt
  refine ⟨_, exec_frameParam_of_le s k rv (by omega), ?updated, fun i hi => ?kept,
    fun j hj => s.devSlot_setDevSlot_other hj.symm _, rfl⟩
  case updated => rw [hbyte, if_pos ho.symm]
  case kept => rw [hbyte, if_neg (by rw [ho]; exact Fin.val_ne_of_ne hi)]

/-- Settles O51: the stray update writes its slot only and sends after what was sent. -/
theorem strayParameterFrameStaysInItsSlot : Obligations.StrayParameterFrameStaysInItsSlot :=
  fun s k rv _ hstray => ⟨s.strayUpdate k, exec_frameParam_of_stray s k rv hstray,
    fun _ hj => s.devSlot_strayUpdate_other hj.symm, s.strayUpdate_cfg k, s.strayUpdate_events k,
    s.strayUpdate_responses k, ⟨Config.strayReplies s.free, (replies_strayUpdate s k).symm⟩⟩

/-- Settles O53: the equation of the frame's receipt. -/
theorem responseFrameLeavesTheDevice : Obligations.ResponseFrameLeavesTheDevice := exec_frameResp

/-! The reply to a Request (R288, R146): either image decodes to the instrument the slot holds. -/

/-- R146: the unused bits have no part in the instrument. -/
theorem rcDec_clearUnused (m : Image) : rcDec (clearUnused m) = rcDec m := by
  rw [← imageOf_rcDec, rcDec_imageOf (valid_rcDec m)]

theorem rcDec_replyImage (s : State) (k : Fin 16) : rcDec (s.replyImage k) = rcDec (s.devSlot k) := by
  rcases s.replyImage_cases k with h | h
  · rw [h]
  · rw [h, rcDec_clearUnused]

/-- R191: MF.PARSE of a Response frame for any slot. -/
theorem mfParse_frameBytes_response (rv : Byte × Byte) (k : Fin 16) (m : Image) :
    mfParse (frameBytes 0x03 rv k m.toList) = .ok (.response k rv m (rcDec m)) :=
  mfParse_frameBytes (by decide) (length_bpEnc_image m) (by rw [parsedResult_response, imageOfBytes_toList]; rfl)

/-- Settles O52: the reply parses to its image, and the image decodes to the slot's instrument whichever it is. -/
theorem requestFrameIsAnsweredWithTheInstrument : Obligations.RequestFrameIsAnsweredWithTheInstrument := by
  intro s k rv
  have hparse := mfParse_frameBytes_response (0, 0) k (s.replyImage k)
  rw [rcDec_replyImage] at hparse
  exact ⟨_, _, s.replyImage k, exec_frameReq s k rv, rfl, hparse, s.replyImage_cases k, rfl, rfl, rfl, rfl⟩

/-! A step that finds a frame presented (R288): what MF.PARSE makes of the frame decides it. -/

theorem decodeFrame_of_mfParse_error {b : Bytes} {e : ErrorInfo} (h : mfParse b = .error e) :
    decodeFrame b = .error e := by
  unfold decodeFrame
  rw [h]

/-- Settles O54: the frame decodes to the parse's error, and an undecoded frame is dropped. -/
theorem malformedFrameLeavesTheDevice : Obligations.MalformedFrameLeavesTheDevice :=
  fun s _ _ _ hev hparse => step_of_done (s.fetch_error hev (decodeFrame_of_mfParse_error hparse))

theorem step_of_mfParse_ok {s : State} {fr : Bytes} {rest : List Event} {p : ParsedFrame}
    (hev : s.events = .arrive (.frame fr) :: rest) (hparse : mfParse fr = .ok p) :
    step s = exec (frameInstr p) { s with events := rest } :=
  step_of_run (s.fetch_ok hev (decodeFrame_of_mfParse hparse))

/-- Settles O48: the frame's parse selects the row, and the row's equation is read field by field. -/
theorem deviceFollowsTheFrameTable : Obligations.DeviceFollowsTheFrameTable := by
  intro s fr rest hev
  cases hparse : mfParse fr with
  | error e => exact ⟨_, malformedFrameLeavesTheDevice s fr rest e hev hparse, rfl, rfl, rfl, rfl, rfl⟩
  | ok p =>
    have hstep := step_of_mfParse_ok hev hparse
    cases p with
    | dump k rv m =>
      exact ⟨_, hstep.trans (exec_frameDump _ k rv m), rfl, rfl, rfl, State.devSlot_setDevSlot_same _ k m,
        fun _ hj => State.devSlot_setDevSlot_other _ hj.symm m, rfl⟩
    | paramUpdate k rv tr =>
      rcases Nat.lt_or_ge 11 tr.offset.toNat with hstray | hbyte
      · exact ⟨_, hstep.trans (exec_frameParam_of_stray _ k rv hstray), rfl, rfl, rfl,
          fun _ hj => State.devSlot_strayUpdate_other _ hj.symm, fun hle => absurd hle (Nat.not_le.mpr hstray)⟩
      · exact ⟨_, hstep.trans (exec_frameParam_of_le _ k rv hbyte), rfl, rfl, rfl,
          fun _ hj => State.devSlot_setDevSlot_other _ hj.symm _,
          fun _ => ⟨rfl, fun i => getElem_devSlot_setDevSlot_applyTriple _ k tr i.isLt⟩⟩
    | request k rv =>
      exact ⟨_, hstep.trans (exec_frameReq _ k rv), rfl, rfl, rfl, rfl, _, State.replyImage_cases _ k, rfl⟩
    | response k rv m ins =>
      exact ⟨_, hstep.trans (exec_frameResp _ k rv m), rfl, rfl, rfl, rfl, rfl⟩

end Sys2Proof.Machine

/-! ### The statements about reset and hazards (70_reset_and_hazards.md): an abandoned request, the fixed configuration,
an update of a field whatever the device holds -/

namespace Sys2Proof.Machine

/-- Settles O2: a reset is fetched as the reset of the block in the state without that event. -/
theorem resetAbandonsTheRequest : Obligations.ResetAbandonsTheRequest :=
  fun s _ _ hev => step_of_done (s.fetch_reset hev)

/-! The configuration (R302): what runs and what is dropped both leave it. -/

@[simp] theorem State.answer_cfg (s : State) (result : Except ErrorInfo Value) : (s.answer result).cfg = s.cfg := by
  rcases s.answer_cases result with ⟨_, _, h⟩ | ⟨_, _, h⟩ <;> rw [h, State.respond_cfg]

@[simp] theorem State.undecoded_cfg (s : State) (p : Packet) (e : ErrorInfo) : (s.undecoded p e).cfg = s.cfg := by
  cases p <;> rfl

/-- R288: the receipt of a frame reaches the device and its wire only. -/
theorem cfg_of_exec_frame {i : Instr} (hi : i.isBlockOperation = false) {s s' : State} (h : exec i s = .next s') :
    s'.cfg = s.cfg := by
  cases i <;> cases hi <;> cases h
  case frameDump slot reserved image => exact s.setDevSlot_cfg slot image
  case frameParam slot reserved triple =>
    split
    · exact s.setDevSlot_cfg slot _
    · exact s.strayUpdate_cfg slot
  case frameReq slot reserved => rw [State.drawFree_cfg, State.sendReplies_cfg]
  case frameResp slot reserved image => rfl

/-- R302: no instruction changes the configuration; an operation of the block only answers. -/
theorem cfg_of_exec {i : Instr} {s s' : State} (h : exec i s = .next s') : s'.cfg = s.cfg := by
  cases hi : i.isBlockOperation with
  | true =>
    obtain ⟨result, hresult⟩ := Option.isSome_iff_exists.mp ((isSome_operationResult s.cfg i).trans hi)
    rw [exec_of_operationResult hresult] at h
    cases h
    exact s.answer_cfg result
  | false => exact cfg_of_exec_frame hi h

/-- Settles O8, by the four things a step can do. -/
theorem configurationStaysFixed : Obligations.ConfigurationStaysFixed := by
  intro s s' hstep
  rcases step_cases s with ⟨_, h⟩ | ⟨r, rest, _, h⟩ | ⟨p, rest, e, _, _, h⟩ | ⟨p, rest, i, _, _, h⟩
  · cases h.symm.trans hstep; rfl
  · cases h.symm.trans hstep; exact State.blockReset_cfg _
  · cases h.symm.trans hstep; exact State.undecoded_cfg _ p e
  · exact cfg_of_exec (s := { s with events := rest }) (h.symm.trans hstep)

/-! The delivery of a parameter frame (R305): the build's triple names a byte, so the device updates the slot by it. -/

/-- R180, R288: a parameter frame presented to the device updates the slot it was built for by its triple. -/
theorem step_frame_paramUpdate {s : State} {q : Rat} {t : Triple} {rest : List Event} (ht : t.offset.toNat ≤ 11)
    (hev : s.events = .arrive (.frame (frame 0x01 q (tripleBytes t))) :: rest) :
    step s = .next (({ s with events := rest } : State).setDevSlot (slotOf q)
      (applyTriple (s.devSlot (slotOf q)) t)) :=
  (step_of_mfParse_ok hev (mfParse_frame_paramUpdate q t)).trans (exec_frameParam_of_le _ (slotOf q) (0, 0) ht)

/-- Settles O55: the build completes, its frame parses to the field's triple, and R149 says what the triple does to any
image. -/
theorem builtUpdateSetsTheDeviceField : Obligations.BuiltUpdateSetsTheDeviceField := by
  intro s q fsel v f op hsel hv
  have hbyte : (tripleOf f op v).offset.toNat ≤ 11 := by
    rw [toNat_offset_tripleOf]
    exact Nat.le_of_lt_succ (offset_lt f op)
  refine ⟨_, _, exec_mfBuildParam_of_ok s q (rcTriple_of_ofFsel hsel hv), step_frame_paramUpdate hbyte rfl, ?field,
    fun j hj => State.devSlot_setDevSlot_other _ hj.symm _⟩
  case field => rw [State.devSlot_setDevSlot_same]; exact rcDec_applyTriple op hv _

end Sys2Proof.Machine
